-- ==== Sys2Proof/Word.lean ====
section
/-! DEFINITION. The word types of the Haruna sync block: the byte, the diagnostic counter, and the 7-byte Snapshot record. -/

namespace Sys2Proof

/-- A byte (00_scope.md R17). -/
abbrev Byte := BitVec 8

/-- A diagnostic counter: `CNT_W = 32` bits, wrapping (00_scope.md R14). -/
abbrev Counter := BitVec 32

/-- The Snapshot record (30_encoding.md R70): the format of `SNAP`, of `POB`, of a frame's payload and of the bus
reply. Seven bytes, in index order; there is no reserved byte (90_conflicts.md C1). -/
structure Record where
  /-- byte 0, `buttons[7:0]` -/
  buttonsLo : Byte
  /-- byte 1, `buttons[15:8]` -/
  buttonsHi : Byte
  /-- byte 2 -/
  dpad : Byte
  /-- byte 3 -/
  leftX : Byte
  /-- byte 4 -/
  leftY : Byte
  /-- byte 5 -/
  rightX : Byte
  /-- byte 6 -/
  rightY : Byte
  deriving DecidableEq, Repr, Inhabited

end Sys2Proof
end

