-- ==== Sys2Proof/Config.lean ====
section
/-! DEFINITION. The parameters the spec lets a model take as arguments, and the free values (constants without a body). -/

namespace Sys2Proof

/-- The 7 bytes the Snapshot holds after reset: open (00_scope.md R15, 70_reset_and_hazards.md R161). A constant with no
body: nothing can be proved of its bytes. DESIGN CHOICE (log 6), safe. -/
opaque Config.snapReset : Record

/-- The unspecified content of `POB` after a reset (10_state.md R23, R46). DESIGN CHOICE (log 7), safe. -/
opaque Config.pobAtReset : Nat → Record

/-- Whether the event is ordered before the control-channel byte that came at the same instant
(20_memory.md R62: "Which of the two is not fixed"). DESIGN CHOICE (log 13), safe. -/
opaque Config.eventFirst : Nat → Bool

/-- Which bytes of a torn copy are new: bit `k` for byte `k` (20_memory.md R60). DESIGN CHOICE (log 14), safe. -/
opaque Config.tornBytes : Nat → BitVec 7

/-- The parameters of 00_scope.md R12, R13, R15 and R16. They are fixed for a machine: no operation writes them. -/
structure Params where
  /-- `TXQ_DEPTH`, at least 1 -/
  txqDepth : Nat
  /-- `RXQ_DEPTH`, at least 1 -/
  rxqDepth : Nat
  /-- `TXQ_FLUSH_ON_STOP` -/
  txqFlushOnStop : Bool
  /-- `SNAP_WRITE_ATOMIC` -/
  snapWriteAtomic : Bool
  /-- `SNAP_RESET` -/
  snapReset : Record
  deriving DecidableEq, Repr

/-- The spec's defaults (00_scope.md R12, R13, R15, R16). -/
def Params.standard : Params where
  txqDepth := 16
  rxqDepth := 16
  txqFlushOnStop := true
  snapWriteAtomic := true
  snapReset := Config.snapReset

end Sys2Proof
end

