-- ==== Sys2Proof/Machine/Constants.lean ====
section
/-! DEFINITION. The constants hardwired into the block (00_scope.md R6 to R9, 30_encoding.md R76), and the record's bytes. -/

namespace Sys2Proof

/-- `SNAP_LEN` (R6). -/
abbrev snapLen : Nat := 7

/-- `IAB_CAP` (R7). -/
abbrev iabCap : Nat := 16

/-- `START_MARKER`, its first byte (R8). -/
def start0 : Byte := 0x55
/-- `START_MARKER`, its second byte (R8). -/
def start1 : Byte := 0xAA
/-- `END_MARKER`, its first byte (R8). -/
def end0 : Byte := 0x0D
/-- `END_MARKER`, its second byte (R8). -/
def end1 : Byte := 0x0A

/-- `CMD_GET` (R9). -/
def cmdGet : Byte := 0x10

/-- `BUS_ADDR`, the 7-bit peripheral address (R9); the bus hardware compares it, before an operation reaches the block
(60_exceptions.md R152). -/
def busAddr : BitVec 7 := 0x55

/-- The record's bytes in index order (30_encoding.md R70, 20_memory.md R52). -/
def Record.bytes (r : Record) : List Byte :=
  [r.buttonsLo, r.buttonsHi, r.dpad, r.leftX, r.leftY, r.rightX, r.rightY]

/-- The record whose byte `k` is the `k`-th of seven bytes; no record from any other number of bytes
(30_encoding.md R78). -/
def Record.ofBytes : List Byte → Option Record
  | [b0, b1, b2, b3, b4, b5, b6] => some ⟨b0, b1, b2, b3, b4, b5, b6⟩
  | _ => none

/-- The button mask, little-endian: `{byte 1, byte 0}` (20_memory.md R51). -/
def Record.buttons (r : Record) : BitVec 16 := r.buttonsHi ++ r.buttonsLo

/-- The byte `new` where `mask` has bit `k` set, else `old`. -/
def tornByte (mask : BitVec 7) (k : Nat) (old new : Byte) : Byte := if mask.getLsbD k then new else old

/-- A torn copy: byte by byte the old or the new record (20_memory.md R60). -/
def Record.torn (mask : BitVec 7) (old new : Record) : Record where
  buttonsLo := tornByte mask 0 old.buttonsLo new.buttonsLo
  buttonsHi := tornByte mask 1 old.buttonsHi new.buttonsHi
  dpad := tornByte mask 2 old.dpad new.dpad
  leftX := tornByte mask 3 old.leftX new.leftX
  leftY := tornByte mask 4 old.leftY new.leftY
  rightX := tornByte mask 5 old.rightX new.rightX
  rightY := tornByte mask 6 old.rightY new.rightY

/-- The eleven bytes of a frame, in arrival order (30_encoding.md R74). -/
def frameBytes (p : Record) : List Byte := [start0, start1] ++ p.bytes ++ [end0, end1]

end Sys2Proof
end

