-- ==== Sys2Proof/Syntax.lean ====
section
/-! DEFINITION. The instructions: one constructor per row of spec/opcode_table.json. An instruction of this hardware is one
operation: a control-channel byte, a hardware event, an action of the bus environment, or a reset (00_scope.md R19). -/

namespace Sys2Proof

/-- The free-capacity operand `f` of `RR` and `TD`, as 30_encoding.md R86 writes it: with a value, which stands on the
port `tx_free[4:0]` (R77), or left out, and then it is what the reference transmit queue reports (42_bus_queues.md R131). -/
inductive FreeOperand where
  /-- the value on `tx_free` -/
  | port (f : Nat)
  /-- left out: `TXQ_DEPTH - len(TXQ)` when the operation starts -/
  | queue
  deriving DecidableEq, Repr

/-- The four hardware events (60_exceptions.md R145). -/
inductive Event where
  /-- Read-Requested -/
  | rr
  /-- Transmit-Queue-Drained -/
  | td
  /-- Byte-Received -/
  | br
  /-- Transaction-Stopped -/
  | st
  deriving DecidableEq, Repr

/-- The operations of spec/opcode_table.json. -/
inductive Instr where
  /-- `CC b`: one control-channel byte (41_frame_parser.md R110) -/
  | cc (b : Byte)
  /-- `RR f`: Read-Requested (40_bus_responder.md R92) -/
  | rr (f : FreeOperand)
  /-- `TD f`: Transmit-Queue-Drained (40_bus_responder.md R95) -/
  | td (f : FreeOperand)
  /-- `BR`: Byte-Received (40_bus_responder.md R96) -/
  | br
  /-- `ST`: Transaction-Stopped (40_bus_responder.md R98) -/
  | st
  /-- `FRAME p0 .. p6`: a frame on the control channel (30_encoding.md R74, R87) -/
  | frame (p : Record)
  /-- `GET`: the master's command byte `0x10` (30_encoding.md R80, R87) -/
  | get
  /-- `POP`: the master takes one reply byte (42_bus_queues.md R132) -/
  | pop
  /-- `WR b`: the master writes one byte (42_bus_queues.md R135) -/
  | wr (b : Byte)
  /-- `RESET` (70_reset_and_hazards.md R160) -/
  | reset
  deriving DecidableEq, Repr

/-- What the ports, or the environment's side of the bus, carry at one stimulus (10_state.md R45, 30_encoding.md R80): a port has
exactly the bits the spec gives it, so nothing else can stand here. -/
inductive PortWord where
  /-- `cc_valid = 1` with `cc_data` -/
  | cc (data : Byte)
  /-- bytes one after the other on `cc_data` (30_encoding.md R87, `FEED`); eleven of them may be the pattern `FRAME` -/
  | feed (bytes : List Byte)
  /-- `ev_valid = 1` with `ev_code`; and `tx_free`, or nothing where the event is written without `f` (R86) -/
  | ev (code : BitVec 2) (free : Option (BitVec 5))
  /-- a data byte of a write transaction on the bus (R75) -/
  | busw (data : Byte)
  /-- the master clocks one reply byte: no bits (R86) -/
  | pop
  /-- the master's byte as it enters `RXQ` (R86) -/
  | wr (data : Byte)
  /-- the level of `rst` -/
  | rst (level : BitVec 1)
  deriving DecidableEq, Repr

end Sys2Proof
end

