-- ==== Sys2Proof/WellFormed.lean ====
section
/-! DEFINITION. What an instruction and the parameters must satisfy to be written on the ports. -/

namespace Sys2Proof

/-- A value of `f` fits the five bits of `tx_free` (30_encoding.md R77, 10_state.md R45). It need not be at most
`TXQ_DEPTH`: R77 says what a larger value does. -/
def FreeOperand.wf : FreeOperand → Bool
  | .port f => decide (f < 32)
  | .queue => true

/-- Every other operand takes every value of its type (30_encoding.md R82 to R84). -/
def Instr.wf : Instr → Bool
  | .rr f => f.wf
  | .td f => f.wf
  | .cc _ | .br | .st | .frame _ | .get | .pop | .wr _ | .reset => true

/-- Both queues have at least one slot (00_scope.md R12, R13). -/
def Params.wf (p : Params) : Bool := decide (1 ≤ p.txqDepth) && decide (1 ≤ p.rxqDepth)

end Sys2Proof
end

