-- ==== Sys2Proof/Decode.lean ====
section
/-! DEFINITION. From what the ports carry to operations and back (30_encoding.md R74, R76, R77, R80,
spec/opcode_table.json). -/

namespace Sys2Proof

/-- Why what the ports carry is no operation of spec/opcode_table.json. The machine does not stop on it (log 19). -/
inductive DecodeError where
  /-- bytes on `cc_data` that are not the pattern `FRAME`: they are `CC` operations one by one -/
  | noFrame
  /-- a bus byte other than the command `0x10`: "No other commands are defined" (R75); it is written and counted alike (R84) -/
  | noCommand
  /-- `rst = 0` selects nothing -/
  | notAsserted
  deriving DecidableEq, Repr

/-- The event with a given `ev_code` (30_encoding.md R76): all four codes are used. -/
def Event.ofCode (c : BitVec 2) : Event :=
  if c = 0 then .rr else if c = 1 then .td else if c = 2 then .br else .st

/-- The code of an event on `ev_code` (30_encoding.md R76). -/
def Event.code : Event → BitVec 2
  | .rr => 0
  | .td => 1
  | .br => 2
  | .st => 3

/-- The operation an event selects (60_exceptions.md R149: "Control goes to the operation selected by `ev_code`"). `BR` and
`ST` do not sample `tx_free` (10_state.md R45). -/
def Event.instr (f : FreeOperand) : Event → Instr
  | .rr => .rr f
  | .td => .td f
  | .br => .br
  | .st => .st

/-- `f` is `tx_free[4:0]` "as an unsigned value" (30_encoding.md R77), or left out (R86). -/
def FreeOperand.ofPort : Option (BitVec 5) → FreeOperand
  | some v => .port v.toNat
  | none => .queue

/-- What stands on `tx_free` for an operand. -/
def FreeOperand.onPort : FreeOperand → Option (BitVec 5)
  | .port n => some (BitVec.ofNat 5 n)
  | .queue => none

/-- The payload of eleven bytes that are a frame (30_encoding.md R74). -/
def framePayload : List Byte → Option Record
  | [a, b, p0, p1, p2, p3, p4, p5, p6, c, d] =>
    if a = start0 ∧ b = start1 ∧ c = end0 ∧ d = end1 then some ⟨p0, p1, p2, p3, p4, p5, p6⟩ else none
  | _ => none

/-- The row of spec/opcode_table.json that what the ports carry selects (30_encoding.md R80). Only the row's name depends on the
value of a bus byte, not what the machine does (R84): see `operationsOf`. -/
def decode : PortWord → Except DecodeError Instr
  | .cc b => .ok (.cc b)
  | .feed bs =>
    match framePayload bs with
    | some p => .ok (.frame p)
    | none => .error .noFrame
  | .ev c free => .ok ((Event.ofCode c).instr (FreeOperand.ofPort free))
  | .busw b => if b = cmdGet then .ok .get else .error .noCommand
  | .pop => .ok .pop
  | .wr b => .ok (.wr b)
  | .rst l => if l = 1 then .ok .reset else .error .notAsserted

/-- The operations that stand behind what is no row of the opcode table (log 19): bytes on `cc_data` that are not the pattern
`FRAME` are `CC` operations one by one (30_encoding.md R82, 41_frame_parser.md R119); a bus byte has the effect of the command
`0x10` whatever its value, the expansion of R87 (R84, 93_implementation_defined.md U11: "counted in `RXCNT`, otherwise ignored,
exactly like `0x10`"); `rst = 0` does nothing. -/
def operationsOf : PortWord → List Instr
  | .feed bs => bs.map .cc
  | .busw b => [.wr b, .br]
  | .cc _ | .ev _ _ | .pop | .wr _ | .rst _ => []

/-- What `ev_code` and `tx_free` carry for an event and its operand. -/
def eventWord (e : Event) (f : FreeOperand) : PortWord := .ev e.code f.onPort

/-- What the ports carry for an operation, from the same tables. -/
def encode : Instr → PortWord
  | .cc b => .cc b
  | .rr f => eventWord .rr f
  | .td f => eventWord .td f
  | .br => eventWord .br .queue
  | .st => eventWord .st .queue
  | .frame p => .feed (frameBytes p)
  | .get => .busw cmdGet
  | .pop => .pop
  | .wr b => .wr b
  | .reset => .rst 1

/-- How many bits the ports carry: the table's column "width_bits", and the five of `tx_free` where `f` is written. -/
def PortWord.width : PortWord → Nat
  | .cc _ | .busw _ | .wr _ => 8
  | .feed bs => 8 * bs.length
  | .ev _ none => 2
  | .ev _ (some _) => 2 + 5
  | .pop => 0
  | .rst _ => 1

/-- Byte `k` of a number whose byte 0 is its least significant one. -/
def byteAt (w k : Nat) : Byte := BitVec.ofNat 8 (w >>> (8 * k))

/-- The first `n` bytes of a number, the least significant first. -/
def bytesOf (w : Nat) : Nat → List Byte
  | 0 => []
  | n + 1 => bytesOf w n ++ [byteAt w n]

/-- The eleven bytes of the 88-bit row. Numbered by words, the first byte is the least significant; the row's own `match`
and `mask`, read as one number, have the first byte most significant. A frame cannot be both (`55` is not `0A`). -/
def frameRowBytes (w : Nat) : List Byte :=
  let bs := bytesOf w 11
  if (framePayload bs).isSome then bs else bs.reverse

/-- What bits of spec/opcode_table.json stand for. The table's bits do not say their port (its column `selected_by` does), so
the port is chosen here from the width and the value, log 3: no bits is `POP`, one is `rst`, two to seven are `ev_code`, more
than eight are a frame; of eight, `00` to `03` are `ev_code` with `tx_free = 0`, `10` is the command byte, any other value is
`cc_data`. -/
def tableWord (nbits w : Nat) : PortWord :=
  if nbits = 0 then .pop
  else if nbits = 1 then .rst (BitVec.ofNat 1 w)
  else if nbits < 8 then .ev (BitVec.ofNat 2 w) (some 0)
  else if 8 < nbits then .feed (frameRowBytes w)
  else if w < 4 then .ev (BitVec.ofNat 2 w) (some 0)
  else if w = 0x10 then .busw (byteAt w 0)
  else .cc (byteAt w 0)

/-- The instruction the decoder reads from bits of spec/opcode_table.json. -/
def decodeTableWord (nbits w : Nat) : Option Instr :=
  match decode (tableWord nbits w) with
  | .ok i => some i
  | .error _ => none

end Sys2Proof
end

