-- ==== Sys2Proof/Machine/State.lean ====
section
/-! DEFINITION. The state of the block and of the bus hardware beside it, as plain data, and the state after reset. -/

namespace Sys2Proof.Machine

/-- `Idle` or `Serving` (10_state.md R28). `Idle`: no read transaction is being served. -/
inductive Mode where
  | idle
  | serving
  deriving DecidableEq, Repr

/-- The error kinds that arise inside the block (60_exceptions.md R140). -/
inductive ErrorKind where
  /-- a start marker and a later end marker enclose a payload of another length than 7 -/
  | malformedFrame
  /-- a byte arrives while `n = 16` -/
  | bufferOverflow
  deriving DecidableEq, Repr

/-- One item of the environment's stream (log 1). -/
inductive Input where
  /-- one operation -/
  | word (w : PortWord)
  /-- `cc_valid` with this byte and `ev_valid` with this event word, at the same instant (20_memory.md R62); another word in
  its place is no behaviour of the spec (log 13) -/
  | together (b : Byte) (ev : PortWord)
  /-- an operation of the bus side in a transaction to a peripheral address: only `BUS_ADDR` reaches the block
  (20_memory.md R57, 60_exceptions.md R152); beside any other word an address is no behaviour of the spec (log 23) -/
  | addressed (addr : BitVec 7) (w : PortWord)
  /-- an event that falls inside the `CC` operation just run, before which `SNAP` was `old` (20_memory.md R60) -/
  | inside (ev : PortWord) (old : Record)
  deriving DecidableEq, Repr

/-- The state: 10_state.md R20 (the block), R42 to R44 (the bus hardware), the parameters, and four fields of the
model's own. `n` (R27) is `State.n`. -/
structure State where
  /-- `SNAP[0..6]` (R22) -/
  snap : Record
  /-- `POB[0..6]` (R23) -/
  pob : Record
  /-- `IAB`, oldest byte first (R24) -/
  iab : List Byte
  /-- `mode` (R28) -/
  mode : Mode
  /-- `cur` (R25) -/
  cur : Nat
  /-- `rem` (R26) -/
  rem : Nat
  /-- `RXCNT` (R30) -/
  rxcnt : Counter
  /-- `BADCNT` (R31) -/
  badcnt : Counter
  /-- `OVFCNT` (R32) -/
  ovfcnt : Counter
  /-- `TXQ`, its head first (R42) -/
  txq : List Byte
  /-- `RXQ`, its head first (R43) -/
  rxq : List Byte
  /-- the pending events, the oldest cause first (R44) -/
  pending : List Event
  /-- the parameters; no operation writes them -/
  cfg : Params
  /-- the model's own: what the master has received, oldest first (42_bus_queues.md R132, log 15) -/
  received : List Byte
  /-- the model's own: what the environment has still to give (log 1) -/
  inputs : List Input
  /-- the model's own: `SNAP` before the `CC` operation inside which the operation now handled falls, if any (log 14) -/
  commitOld : Option Record
  /-- the model's own: how many free values have been taken (log 20) -/
  freeIdx : Nat
  deriving DecidableEq, Repr

/-- `n`, the fill count of `IAB` (10_state.md R27). -/
def State.n (s : State) : Nat := s.iab.length

/-- Why the machine stops: an operation that the spec gives NO STEP in the state it meets. The block itself never traps
(60_exceptions.md R141). -/
inductive Fault where
  /-- Raised by `POP` with `TXQ` empty: "`POP` with `TXQ` empty has no step" (42_bus_queues.md R133; 93 U10 `stuck`).
  Safe: a behaviour the spec does not have (log 12). -/
  | popHasNoStep
  /-- Raised by `WR`, and by `GET` whose first half is a `WR`, with `RXQ` full: "with `RXQ` full, `WR` has no step"
  (42_bus_queues.md R135; 93 U15 `stuck`). Safe: a behaviour the spec does not have (log 12). -/
  | wrHasNoStep
  deriving DecidableEq, Repr

/-- Why the machine gives no meaning. -/
inductive Refusal where
  /-- Raised by `exec` for an operation that has no meaning yet; none is left, and `step` refuses nothing. Safe. -/
  | notModelled (mnemonic : String)
  deriving DecidableEq, Repr

/-- The state after reset (10_state.md R46). `SNAP` and `POB` hold values nothing is known of; the environment has given
nothing yet. -/
def State.reset : State where
  snap := Config.snapReset
  pob := Config.pobAtReset 0
  iab := []
  mode := .idle
  cur := 0
  rem := 0
  rxcnt := 0
  badcnt := 0
  ovfcnt := 0
  txq := []
  rxq := []
  pending := []
  cfg := Params.standard
  received := []
  inputs := []
  commitOld := none
  freeIdx := 1

/-- The three outcomes over this machine's types. -/
abbrev Outcome := Host.Outcome State Fault Refusal

end Sys2Proof.Machine
end

