-- ==== Sys2Proof/Machine/Flags.lean ====
section
/-! DEFINITION. The status flag `mode` and the sequencing registers that move with it, and the diagnostic counters. -/

namespace Sys2Proof.Machine

/-- Entering `Serving` at Read-Requested: `cur <- 0 ; rem <- 7 ; mode <- Serving` (40_bus_responder.md R92). -/
def startServing (s : State) : State := { s with cur := 0, rem := snapLen, mode := .serving }

/-- Back to `Idle` at Transaction-Stopped: `cur <- 0 ; rem <- 0 ; mode <- Idle` (40_bus_responder.md R98). -/
def stopServing (s : State) : State := { s with cur := 0, rem := 0, mode := .idle }

/-- A counter advances, modulo `2^CNT_W` (00_scope.md R14, R17). -/
def bump (c : Counter) : Counter := c + 1

/-- `raise <Kind>`: a counter increment and nothing else (60_exceptions.md R140, R141). This is all that taking an
exception is on this hardware: no state is saved, no handler is entered, the operation goes on. -/
def raise (k : ErrorKind) (s : State) : State :=
  match k with
  | .malformedFrame => { s with badcnt := bump s.badcnt }
  | .bufferOverflow => { s with ovfcnt := bump s.ovfcnt }

end Sys2Proof.Machine
end

