-- ==== Sys2Proof/Machine/Operands.lean ====
section
/-! DEFINITION. The operands that are read from the state: the free capacity `f`, the payload between the markers, the bytes
waiting in the receive queue. -/

namespace Sys2Proof.Machine

/-- What the reference transmit queue reports: `TXQ_DEPTH - len(TXQ)` (42_bus_queues.md R131). A queue that holds more than
`TXQ_DEPTH` bytes, which only an open system can make (log 16), reports 0: natural subtraction stops there. DESIGN CHOICE
(log 16). -/
def txFree (s : State) : Nat := s.cfg.txqDepth - s.txq.length

/-- The operand `f` of `RR` and `TD` when the operation starts (30_encoding.md R77, R86). A value above `TXQ_DEPTH` is treated
"as any `f >= 7`" (R77). -/
def freeCapacity (f : FreeOperand) (s : State) : Nat :=
  match f with
  | .port n => if n ≤ s.cfg.txqDepth then n else snapLen
  | .queue => txFree s

/-- The first index at which two bytes stand side by side. -/
def findPair (a b : Byte) : List Byte → Option Nat
  | x :: y :: rest => if x = a ∧ y = b then some 0 else (findPair a b (y :: rest)).map (· + 1)
  | _ => none

/-- `FindStart()` (41_frame_parser.md R113). -/
def findStart (iab : List Byte) : Option Nat := findPair start0 start1 iab

/-- `FindEnd(i)`: the scan begins at `i + 2` (41_frame_parser.md R114). -/
def findEnd (i : Nat) (iab : List Byte) : Option Nat :=
  (findPair end0 end1 (iab.drop (i + 2))).map (· + (i + 2))

/-- `L = j - (i + 2)` (41_frame_parser.md R115). -/
def payloadLength (i j : Nat) : Nat := j - (i + 2)

/-- The payload `IAB[i+2 .. j-1]`, "the span strictly between" the markers (30_encoding.md R78). -/
def payload (i j : Nat) (iab : List Byte) : List Byte := (iab.drop (i + 2)).take (payloadLength i j)

/-- Whether the receive queue takes one more byte (42_bus_queues.md R135). -/
def rxHasRoom (s : State) : Bool := decide (s.rxq.length < s.cfg.rxqDepth)

end Sys2Proof.Machine
end

