-- ==== Sys2Proof/Machine/Ops.lean ====
section
/-! DEFINITION. The operations the instructions share: the accesses A1 to A7 of 20_memory.md R50, the delivery of an event,
and the parser's handling of one byte. -/

namespace Sys2Proof.Machine

/-! ### Events: handler entry and return -/

/-- Delivering an event (60_exceptions.md R145, R149): running its operation clears it, and entering the handler saves
nothing and changes no mode. A handler returns by ending, with nothing to restore (R150): there is no operation for that. -/
def takeEvent (e : Event) (s : State) : State := { s with pending := s.pending.erase e }

/-- An event becomes pending; several writes before a `BR` are served by that one `BR` (60_exceptions.md R145), so an
event that is pending already is not listed twice. -/
def makePending (e : Event) (s : State) : State :=
  if e ∈ s.pending then s else { s with pending := s.pending ++ [e] }

/-! ### The Bus Responder's accesses -/

/-- Access A5, `POB[0..6] <- SNAP[0..6]` (40_bus_responder.md R92), indivisible (20_memory.md R56). Only with
`SNAP_WRITE_ATOMIC = false`, and only inside a `CC` operation, is the copy a mixture of the old and the new Snapshot
(20_memory.md R60). -/
def copySnapshot (s : State) : State :=
  match s.commitOld with
  | some old =>
    if s.cfg.snapWriteAtomic then { s with pob := s.snap }
    else { s with pob := Record.torn (Config.tornBytes s.freeIdx) old s.snap, freeIdx := s.freeIdx + 1 }
  | none => { s with pob := s.snap }

/-- `Push(f)` (40_bus_responder.md R91), access A6: `min(rem, f)` bytes from `POB[cur]` on go to the tail of `TXQ`.
`pushLoop` below is the rule's loop word for word. -/
def push (f : Nat) (s : State) : State :=
  let k := min s.rem f
  { s with txq := s.txq ++ (s.pob.bytes.drop s.cur).take k, cur := s.cur + k, rem := s.rem - k }

/-- One turn of R91's loop: `tx_push(POB[cur]) ; cur <- cur + 1 ; rem <- rem - 1`. -/
def pushOne (s : State) : State :=
  { s with txq := s.txq ++ (s.pob.bytes.drop s.cur).take 1, cur := s.cur + 1, rem := s.rem - 1 }

/-- R91's "repeat k times". -/
def pushLoop : Nat → State → State
  | 0, s => s
  | k + 1, s => pushLoop k (pushOne s)

/-- R96's loop, access A7: each byte is popped, discarded and counted (`rx_pop`, 42_bus_queues.md R136). The first
argument is the queue still to be popped. -/
def drainLoop : List Byte → State → State
  | [], s => { s with rxq := [] }
  | _ :: rest, s => drainLoop rest { s with rxq := rest, rxcnt := bump s.rxcnt }

/-- "while RXQ is not empty" (40_bus_responder.md R96). -/
def drainRxq (s : State) : State := drainLoop s.rxq s

/-! ### The bus hardware -/

/-- At the stop the bus hardware empties `TXQ`, unless `TXQ_FLUSH_ON_STOP = false` (42_bus_queues.md R134). -/
def flushTxq (s : State) : State := if s.cfg.txqFlushOnStop then { s with txq := [] } else s

/-- The master writes one byte: `RXQ <- RXQ ++ [b]`, and a Byte-Received event becomes pending (42_bus_queues.md R135). -/
def masterWrite (b : Byte) (s : State) : State := makePending .br { s with rxq := s.rxq ++ [b] }

/-! ### The Frame Parser -/

/-- `Append(b)` (41_frame_parser.md R111), access A1. -/
def append (b : Byte) (s : State) : State := { s with iab := s.iab ++ [b] }

/-- `OverflowAppend(b)` (41_frame_parser.md R112): the oldest byte is lost. -/
def overflowAppend (b : Byte) (s : State) : State :=
  raise .bufferOverflow { s with iab := s.iab.drop 1 ++ [b] }

/-- The append step of `CC` (41_frame_parser.md R110). -/
def appendByte (b : Byte) (s : State) : State :=
  if s.n = iabCap then overflowAppend b s else append b s

/-- `Commit(i)` (41_frame_parser.md R116), access A3: `SNAP[0..6] <- IAB[i+2 .. i+8]`. -/
def commit (i j : Nat) (s : State) : State :=
  match Record.ofBytes (payload i j s.iab) with
  | some r => { s with snap := r }
  | none => s

/-- `Reject()` (41_frame_parser.md R117). -/
def reject (s : State) : State := raise .malformedFrame s

/-- `Compact(j)` (41_frame_parser.md R118), access A4. -/
def compact (j : Nat) (s : State) : State := { s with iab := s.iab.drop (j + 2) }

/-- The steps of `CC` after both markers are found (41_frame_parser.md R115 to R118). -/
def handleSpan (i j : Nat) (s : State) : State :=
  compact j (if payloadLength i j = snapLen then commit i j s else reject s)

/-- The steps of `CC` after the append: the two scans (access A2) and what follows them (41_frame_parser.md R110). -/
def scan (s : State) : State :=
  match findStart s.iab with
  | none => s
  | some i =>
    match findEnd i s.iab with
    | none => s
    | some j => handleSpan i j s

/-- The whole of `CC(b)` (41_frame_parser.md R110). -/
def parseByte (b : Byte) (s : State) : State := scan (appendByte b s)

/-- `CC` operations one after the other (30_encoding.md R87, `FEED`). -/
def parseBytes : List Byte → State → State
  | [], s => s
  | b :: bs, s => parseBytes bs (parseByte b s)

/-! ### Reset -/

/-- `RESET()` (70_reset_and_hazards.md R160, 10_state.md R46). -/
def resetState (s : State) : State :=
  { s with
    snap := s.cfg.snapReset
    pob := Config.pobAtReset s.freeIdx
    iab := []
    mode := .idle
    cur := 0
    rem := 0
    rxcnt := 0
    badcnt := 0
    ovfcnt := 0
    txq := []
    rxq := []
    pending := []
    freeIdx := s.freeIdx + 1 }

end Sys2Proof.Machine
end

