-- ==== Sys2Proof/Machine/Fetch.lean ====
section
/-! DEFINITION. Which operation comes next: from the environment's stream, or a pending event. -/

namespace Sys2Proof.Machine

/-- The word by which a pending event is delivered: without `f`, which the reference queue then reports. -/
def pendingWord (e : Event) : PortWord := eventWord e .queue

/-- The `CC` half of a `together`. -/
def ccWord (b : Byte) : PortWord := .cc b

/-- What the environment gives next. -/
inductive Fetched where
  /-- an operation's word, and the state it is run in -/
  | run (w : PortWord) (s : State)
  /-- nothing for the block -/
  | quiet (s : State)
  deriving DecidableEq, Repr

/-- A byte and an event at the same instant. With the Snapshot write indivisible they are performed in either order
(20_memory.md R62): the free value says which. With `SNAP_WRITE_ATOMIC = false` the event falls inside the byte's `CC`
operation (R60): what that operation does comes first, and the event is handled with the old Snapshot still at hand. -/
def splitTogether (b : Byte) (ev : PortWord) (rest : List Input) (s : State) : Fetched :=
  if s.cfg.snapWriteAtomic then
    if Config.eventFirst s.freeIdx then
      .run ev { s with inputs := .word (ccWord b) :: rest, commitOld := none, freeIdx := s.freeIdx + 1 }
    else .run (ccWord b) { s with inputs := .word ev :: rest, commitOld := none, freeIdx := s.freeIdx + 1 }
  else .run (ccWord b) { s with inputs := .inside ev s.snap :: rest, commitOld := none }

/-- The next operation. A bus action to another address than `BUS_ADDR` does not reach the block (20_memory.md R57,
60_exceptions.md R152). An address beside a control-channel byte or `rst`, which have none, is no behaviour of the spec
(10_state.md R40); that such an item is dropped too is a DESIGN CHOICE (log 23). Pending events go one at a time, the oldest cause first (R145,
R146), when the environment's stream, which may name the moment of a delivery itself, has ended (log 10). With none pending
either, nothing happens (log 11). -/
def fetch (s : State) : Fetched :=
  match s.inputs with
  | .word w :: rest => .run w { s with inputs := rest, commitOld := none }
  | .addressed a w :: rest =>
    if a = busAddr then .run w { s with inputs := rest, commitOld := none }
    else .quiet { s with inputs := rest, commitOld := none }
  | .inside ev old :: rest => .run ev { s with inputs := rest, commitOld := some old }
  | .together b ev :: rest => splitTogether b ev rest s
  | [] =>
    match s.pending with
    | e :: _ => .run (pendingWord e) { s with commitOld := none }
    | [] => .quiet s

/-- A word put in front of the environment's stream. -/
def State.prependWord (s : State) (w : PortWord) : State := { s with inputs := .word w :: s.inputs }

end Sys2Proof.Machine
end

