-- ==== Sys2Proof/Machine/BusQueues.lean ====
section
/-! DEFINITION. Family "reference bus queues": `POP` and `WR`. -/

namespace Sys2Proof.Machine

/-- `POP` (42_bus_queues.md R132): the head of `TXQ` goes to the master; with `TXQ` empty there is no step (R133). -/
def execPop (s : State) : Outcome :=
  match s.txq with
  | [] => .fault .popHasNoStep
  | b :: rest => .next { s with txq := rest, received := s.received ++ [b] }

/-- `WR b` (42_bus_queues.md R135); with `RXQ` full there is no step. -/
def execWr (b : Byte) (s : State) : Outcome :=
  if rxHasRoom s then .next (masterWrite b s) else .fault .wrHasNoStep

end Sys2Proof.Machine
end

