-- ==== Sys2Proof/Machine/BusResponder.lean ====
section
/-! DEFINITION. Family "bus responder": `RR`, `TD`, `BR`, `ST` and the command `GET`. -/

namespace Sys2Proof.Machine

/-- `RR f` (40_bus_responder.md R92): copy, restart, push. `f` is taken when the operation starts. -/
def execRr (f : FreeOperand) (s : State) : Outcome :=
  .next (push (freeCapacity f s) (startServing (copySnapshot (takeEvent .rr s))))

/-- `TD f` (40_bus_responder.md R95). -/
def execTd (f : FreeOperand) (s : State) : Outcome := .next (push (freeCapacity f s) (takeEvent .td s))

/-- `BR` (40_bus_responder.md R96). -/
def execBr (s : State) : Outcome := .next (drainRxq (takeEvent .br s))

/-- `ST` (40_bus_responder.md R98), with the flush of `TXQ` as part of the same step (42_bus_queues.md R134). -/
def execSt (s : State) : Outcome := .next (flushTxq (stopServing (takeEvent .st s)))

/-- `GET`: the master's one-byte command as the block sees it, `WR 10 ; BR` (30_encoding.md R87 `GETCMD`): counted and
otherwise ignored (R80, 40_bus_responder.md R96). It has no step where its `WR` has none. DEDUCED (log 5). -/
def execGet (s : State) : Outcome :=
  if rxHasRoom s then .next (drainRxq (takeEvent .br (masterWrite cmdGet s))) else .fault .wrHasNoStep

end Sys2Proof.Machine
end

