-- ==== Sys2Proof/Machine/FrameParser.lean ====
section
/-! DEFINITION. Family "frame parser": `CC` and `FRAME`. -/

namespace Sys2Proof.Machine

/-- `CC b` (41_frame_parser.md R110). -/
def execCc (b : Byte) (s : State) : Outcome := .next (parseByte b s)

/-- `FRAME p0 .. p6`: the eleven `CC` operations it expands to (30_encoding.md R74, R87), with none of another agent
between them. DEDUCED (log 4). -/
def execFrame (p : Record) (s : State) : Outcome := .next (parseBytes (frameBytes p) s)

end Sys2Proof.Machine
end

