-- ==== Sys2Proof/Machine/Reset.lean ====
section
/-! DEFINITION. Family "reset": `RESET`. -/

namespace Sys2Proof.Machine

/-- `RESET` (70_reset_and_hazards.md R160). -/
def execReset (s : State) : Outcome := .next (resetState s)

end Sys2Proof.Machine
end

