-- ==== Sys2Proof/Machine/Dispatch.lean ====
section
/-! DEFINITION. One arm per constructor of Instr. -/

namespace Sys2Proof.Machine

def exec (i : Instr) (s : State) : Host.Outcome State Fault Refusal :=
  match i with
  | .cc b => Sys2Proof.Machine.execCc b s
  | .rr f => Sys2Proof.Machine.execRr f s
  | .td f => Sys2Proof.Machine.execTd f s
  | .br => Sys2Proof.Machine.execBr s
  | .st => Sys2Proof.Machine.execSt s
  | .frame p => Sys2Proof.Machine.execFrame p s
  | .get => Sys2Proof.Machine.execGet s
  | .pop => Sys2Proof.Machine.execPop s
  | .wr b => Sys2Proof.Machine.execWr b s
  | .reset => Sys2Proof.Machine.execReset s

end Sys2Proof.Machine
end

