-- ==== Sys2Proof/Machine/Sequence.lean ====
section
/-! DEFINITION. Sequences of operations: "A behaviour of the block is a sequence of operations" (20_memory.md R58). -/

namespace Sys2Proof.Machine

/-- Operations one after the other, stopping where one has no next state (20_memory.md R58). -/
def execSeq : List Instr → State → Host.Outcome State Fault Refusal
  | [], s => .next s
  | i :: is, s =>
    match exec i s with
    | .next t => execSeq is t
    | .fault r => .fault r
    | .refused r => .refused r

end Sys2Proof.Machine
end

