-- ==== Sys2Proof/Machine/Step.lean ====
section
/-! DEFINITION. One step: the next operation is decoded and run. -/

namespace Sys2Proof.Machine

/-- One whole operation (20_memory.md R58), if the environment gives one; what is no row of the opcode table is the operations
that stand behind it. -/
def step (s : State) : Host.Outcome State Fault Refusal :=
  match fetch s with
  | .quiet s' => .next s'
  | .run w s' =>
    match decode w with
    | .ok i => exec i s'
    | .error _ => execSeq (operationsOf w) s'

/-- `s` with the bits of a row of spec/opcode_table.json as the environment's next operation. -/
def State.withFetchWord (s : State) (nbits w : Nat) : State := s.prependWord (tableWord nbits w)

end Sys2Proof.Machine
end

