-- ==== Sys2Proof/Machine/Ports.lean ====
section
/-! DEFINITION. What the ports show of the state (10_state.md R45, R29). Reading them changes nothing (60_exceptions.md R155). -/

namespace Sys2Proof.Machine

/-- `mode` as its one bit (10_state.md R29: 0 = Idle, 1 = Serving). -/
def Mode.bit : Mode → Counter
  | .idle => 0
  | .serving => 1

/-- `diag_o` for `diag_sel` (10_state.md R29). No register has the number 7; nothing is said of the port there (log 17). -/
def diagOut (sel : BitVec 3) (s : State) : Option Counter :=
  match sel.toNat with
  | 0 => some s.mode.bit
  | 1 => some (BitVec.ofNat 32 s.cur)
  | 2 => some (BitVec.ofNat 32 s.rem)
  | 3 => some (BitVec.ofNat 32 s.n)
  | 4 => some s.rxcnt
  | 5 => some s.badcnt
  | 6 => some s.ovfcnt
  | _ => none

/-- `snap_o`: the current `SNAP`. The spec gives the port's width and no order of its bits (log 22). -/
def snapOut (s : State) : Record := s.snap

/-- `rx_avail`: there is a head of `RXQ`. -/
def rxAvail (s : State) : Bool := !s.rxq.isEmpty

/-- `rx_data`: the head of `RXQ`. With `RXQ` empty the spec gives the port no value, and the model says nothing of it: `none`.
DESIGN CHOICE (log 22), safe. -/
def rxData (s : State) : Option Byte := s.rxq.head?

end Sys2Proof.Machine
end

