-- ==== Sys2Proof/Safety.lean ====
section
/-! DEFINITION. What the statements call well-behaved: the invariant of the block and of its queues. -/

namespace Sys2Proof.Machine

/-- The bytes `a b` stand at index `i` and `i + 1`. -/
abbrev PairAt (a b : Byte) (l : List Byte) (i : Nat) : Prop := l[i]? = some a ∧ l[i + 1]? = some b

/-- A start marker at index `i` (41_frame_parser.md R113). -/
abbrev StartAt (l : List Byte) (i : Nat) : Prop := PairAt start0 start1 l i

/-- An end marker at index `j` (41_frame_parser.md R114). -/
abbrev EndAt (l : List Byte) (j : Nat) : Prop := PairAt end0 end1 l j

/-- "no start marker followed later by an end marker" (41_frame_parser.md R122). -/
def NoSpan (l : List Byte) : Prop := ∀ i j, StartAt l i → EndAt l j → j < i + 2

/-- No start marker (41_frame_parser.md R124). -/
def NoStart (l : List Byte) : Prop := ∀ i, ¬ StartAt l i

/-- No adjacent pair `0D 0A` (41_frame_parser.md R124). -/
def NoEnd (l : List Byte) : Prop := ∀ j, ¬ EndAt l j

/-- What the assembly buffer holds after the append step of `CC b` (41_frame_parser.md R111, R112). -/
def appended (b : Byte) (s : State) : List Byte := if s.n = iabCap then s.iab.drop 1 ++ [b] else s.iab ++ [b]

/-- 10_state.md R28: `Idle` implies `cur = 0` and `rem = 0`; `Serving` implies `cur + rem = 7`. -/
def State.ModeInv (s : State) : Prop :=
  (s.mode = .idle → s.cur = 0 ∧ s.rem = 0) ∧ (s.mode = .serving → s.cur + s.rem = 7)

/-- When the environment owes a Transmit-Queue-Drained event: `mode = Serving`, `rem > 0` and the transmit queue has room
(60_exceptions.md R147). A fairness duty of the bus hardware, for statements to name as a premise. -/
def State.DrainOwed (s : State) : Prop := s.mode = .serving ∧ 0 < s.rem ∧ 0 < txFree s

/-- A `TD` comes before the next `POP`. -/
def drainBeforeNextPop : List Instr → Bool
  | [] => false
  | .td .queue :: _ => true
  | .pop :: _ => false
  | _ :: is => drainBeforeNextPop is

/-- In a sequence of operations run from `s`, a `TD` follows every `POP` that found `rem > 0`, before the next `POP`
(42_bus_queues.md R138). -/
def drainsFollow : List Instr → State → Bool
  | [], _ => true
  | i :: is, s =>
    (decide (i = .pop → 0 < s.rem → drainBeforeNextPop is = true)) &&
      match exec i s with
      | .next t => drainsFollow is t
      | .fault _ | .refused _ => true

/-- What every step keeps. -/
structure State.Inv (s : State) : Prop where
  /-- 10_state.md R28 -/
  mode : s.ModeInv
  /-- 10_state.md R24, R27 -/
  iabBound : s.n ≤ iabCap
  /-- 41_frame_parser.md R122 -/
  noSpan : NoSpan s.iab
  /-- 10_state.md R43 -/
  rxBound : s.rxq.length ≤ s.cfg.rxqDepth
  /-- 60_exceptions.md R145: a written byte's event is pending until its operation has run -/
  rxPending : s.rxq ≠ [] → Event.br ∈ s.pending

end Sys2Proof.Machine

namespace Sys2Proof

/-- Whether an operation may write the Snapshot: the Frame Parser's, and `RESET` (10_state.md R21, 60 R156). -/
def Instr.mayWriteSnap : Instr → Bool
  | .cc _ | .frame _ | .reset => true
  | .rr _ | .td _ | .br | .st | .get | .pop | .wr _ => false

/-- The operations between one `RR` and the next `RR`, `ST` or `RESET` (40_bus_responder.md R93). -/
def Instr.keepsTransfer : Instr → Bool
  | .rr _ | .st | .reset => false
  | .cc _ | .td _ | .br | .frame _ | .get | .pop | .wr _ => true

/-- The operation takes no value of `f` from outside: the closed system of 42_bus_queues.md R131. -/
def Instr.closed : Instr → Bool
  | .rr f | .td f => decide (f = .queue)
  | .cc _ | .br | .st | .frame _ | .get | .pop | .wr _ | .reset => true

end Sys2Proof
end

