-- ==== Sys2Proof/Certificates/Slice0/Obligations.lean ====
section
/-! DEFINITION. The statements for the provers. Rules R<n> are those of spec/. -/

open Sys2Proof Sys2Proof.Machine

/-! ### Encoding -/

/-- Decoding an encoded well-formed operation gives it back, every operand at every value (30_encoding.md R74, R76, R77). -/
def Obligations.DecodeOfEncodeIsTheOperation : Prop :=
  ∀ i : Instr, i.wf = true → decode (encode i) = .ok i

/-- What decodes to an operation is that operation's encoding, with one exception: `BR` and `ST` do not sample `tx_free`, so
their own code with anything there is theirs (10_state.md R45). What decodes is well-formed. What is no row of the opcode table
is `rst = 0`, bytes that are no frame, or a bus byte other than the command `0x10` (30_encoding.md R75). -/
def Obligations.DecodedWordsAreEncodings : Prop :=
  (∀ (w : PortWord) (i : Instr), decode w = .ok i →
    i.wf = true ∧
    (encode i = w ∨ (i = .br ∧ ∃ free, w = .ev 0b10 (some free)) ∨ (i = .st ∧ ∃ free, w = .ev 0b11 (some free)))) ∧
  (∀ (w : PortWord) (e : DecodeError), decode w = .error e →
    w = .rst 0 ∨ (∃ bs, w = .feed bs ∧ ∀ p : Record, bs ≠ [0x55, 0xAA] ++ p.bytes ++ [0x0D, 0x0A]) ∨
      ∃ b : Byte, b ≠ 0x10 ∧ w = .busw b)

/-- Bits written out from the spec's tables (30_encoding.md R74, R76, R80, spec/opcode_table.json). -/
def Obligations.WordsOfTheOpcodeTableDecode : Prop :=
  decode (.cc 0b10100101) = .ok (.cc 0xA5) ∧
  decode (.ev 0b00 (some 0b10000)) = .ok (.rr (.port 16)) ∧
  decode (.ev 0b01 (some 0b00011)) = .ok (.td (.port 3)) ∧
  decode (.ev 0b10 none) = .ok .br ∧
  decode (.ev 0b11 none) = .ok .st ∧
  decode (.feed [0x55, 0xAA, 1, 2, 3, 4, 5, 6, 7, 0x0D, 0x0A]) = .ok (.frame ⟨1, 2, 3, 4, 5, 6, 7⟩) ∧
  decode (.busw 0b00010000) = .ok .get ∧
  decode .pop = .ok .pop ∧
  decode (.wr 0b00111100) = .ok (.wr 0x3C) ∧
  decode (.rst 0b1) = .ok .reset

/-! ### A step -/

/-- When the environment's next word decodes to `i`, a step is `exec i`, with the word taken off the stream and with no
`CC` operation around it (20_memory.md R58; the stream is the model's, log 1). Bytes of the control channel that are no frame,
of any number, are `CC` operations one by one (30_encoding.md R82), a byte on the bus is `WR` and `BR` whatever its value (R84),
and `rst = 0` does nothing (log 19). -/
def Obligations.StepRunsTheDecodedOperation : Prop :=
  ∀ (s : State) (w : PortWord) (rest : List Input), s.inputs = .word w :: rest →
    (∀ i, decode w = .ok i → step s = exec i { s with inputs := rest, commitOld := none }) ∧
    (∀ bs, w = .feed bs → step s = execSeq (bs.map .cc) { s with inputs := rest, commitOld := none }) ∧
    (∀ b, w = .busw b → step s = execSeq [.wr b, .br] { s with inputs := rest, commitOld := none }) ∧
    (w = .rst 0 → step s = .next { s with inputs := rest, commitOld := none })

/-- Every well-formed operation, put in front of the environment's stream as its encoding, is what the next step runs. -/
def Obligations.StepRunsEveryEncodedOperation : Prop :=
  ∀ (s : State) (i : Instr), i.wf = true →
    step (s.prependWord (encode i)) = exec i { s with commitOld := none }

/-- With the environment's stream ended, a step delivers the pending event with the oldest cause, and that clears it
(60_exceptions.md R145, R146; that the stream goes first is the model's, log 10). -/
def Obligations.StepDeliversTheOldestPendingEvent : Prop :=
  ∀ (s : State) (e : Event) (es : List Event), s.inputs = [] → s.pending = e :: es →
    step s = exec (e.instr .queue) { s with commitOld := none } ∧ ∃ t, step s = .next t ∧ t.pending = es

/-- With nothing to do, the state stays as it is (95_test_vectors.md L1-8; log 11). -/
def Obligations.StepIdlesWithNothingToDo : Prop :=
  ∀ s : State, s.inputs = [] → s.pending = [] → step s = .next s

/-- A bus action to another address than `0x55` does not reach the block; one to `0x55` is run like any other word
(20_memory.md R57, 60_exceptions.md R152; the stream, and that an address may stand beside any word, are the model's, logs
1, 23). -/
def Obligations.OtherBusAddressesDoNotReachTheBlock : Prop :=
  ∀ (s : State) (a : BitVec 7) (w : PortWord) (rest : List Input), s.inputs = .addressed a w :: rest →
    (a ≠ 0x55 → step s = .next { s with inputs := rest, commitOld := none }) ∧
    (a = 0x55 → step s = step { s with inputs := .word w :: rest })

/-- A control-channel byte and a Read-Requested at the same instant, with the Snapshot write indivisible: both are
performed in two steps, and the copy is the whole old Snapshot or the whole new one (20_memory.md R62; the order is a free value,
log 13). -/
def Obligations.SameInstantCopyIsWholeOldOrWholeNew : Prop :=
  ∀ (s : State) (b : Byte) (ev : PortWord) (f : FreeOperand) (rest : List Input),
    s.inputs = .together b ev :: rest → decode ev = .ok (.rr f) → s.cfg.snapWriteAtomic = true →
    ∃ m t u, step s = .next m ∧ step m = .next t ∧ exec (.cc b) s = .next u ∧
      t.snap = u.snap ∧ t.iab = u.iab ∧ t.badcnt = u.badcnt ∧ t.ovfcnt = u.ovfcnt ∧
      t.mode = .serving ∧ t.inputs = rest ∧ (t.pob = s.snap ∨ t.pob = u.snap)

/-- The same with `SNAP_WRITE_ATOMIC = false`: the Read-Requested falls inside the `CC` operation, each byte of the copy
is the old or the new one, and the Snapshot ends as the whole new one (20_memory.md R60; which is a free value, log 14). -/
def Obligations.CopyInsideACommitMixesByByte : Prop :=
  ∀ (s : State) (b : Byte) (ev : PortWord) (f : FreeOperand) (rest : List Input),
    s.inputs = .together b ev :: rest → decode ev = .ok (.rr f) → s.cfg.snapWriteAtomic = false →
    ∃ m t u, step s = .next m ∧ step m = .next t ∧ exec (.cc b) s = .next u ∧
      t.snap = u.snap ∧ t.iab = u.iab ∧ t.mode = .serving ∧ t.inputs = rest ∧
      ∀ k < 7, t.pob.bytes[k]? = s.snap.bytes[k]? ∨ t.pob.bytes[k]? = u.snap.bytes[k]?

/-! ### The Bus Responder -/

/-- `RR f` (40_bus_responder.md R92), outside any `CC` operation or with the Snapshot write indivisible: the whole next
state. That the event's pending mark is cleared is 60_exceptions.md R145. -/
def Obligations.ReadRequestedResult : Prop :=
  ∀ (f : FreeOperand) (s : State), s.commitOld = none ∨ s.cfg.snapWriteAtomic = true →
    exec (.rr f) s = .next { s with
      pob := s.snap
      mode := .serving
      cur := min 7 (freeCapacity f s)
      rem := 7 - min 7 (freeCapacity f s)
      txq := s.txq ++ s.snap.bytes.take (min 7 (freeCapacity f s))
      pending := s.pending.erase .rr }

/-- `RR f` inside a `CC` operation, with `SNAP_WRITE_ATOMIC = false` (20_memory.md R60, 70_reset_and_hazards.md R168): the
whole next state, for some record each byte of which is the old or the new Snapshot's. That one free value is used up is
the model's (log 14). -/
def Obligations.TornReadRequestedResult : Prop :=
  ∀ (f : FreeOperand) (s : State) (old : Record), s.commitOld = some old → s.cfg.snapWriteAtomic = false →
    ∃ p : Record, (∀ k < 7, p.bytes[k]? = old.bytes[k]? ∨ p.bytes[k]? = s.snap.bytes[k]?) ∧
      exec (.rr f) s = .next { s with
        pob := p
        mode := .serving
        cur := min 7 (freeCapacity f s)
        rem := 7 - min 7 (freeCapacity f s)
        txq := s.txq ++ p.bytes.take (min 7 (freeCapacity f s))
        pending := s.pending.erase .rr
        freeIdx := s.freeIdx + 1 }

/-- `TD f` (40_bus_responder.md R95): the whole next state; with nothing remaining it is a no-op. -/
def Obligations.TransmitQueueDrainedResult : Prop :=
  ∀ (f : FreeOperand) (s : State),
    exec (.td f) s = .next { s with
      txq := s.txq ++ (s.pob.bytes.drop s.cur).take (min s.rem (freeCapacity f s))
      cur := s.cur + min s.rem (freeCapacity f s)
      rem := s.rem - min s.rem (freeCapacity f s)
      pending := s.pending.erase .td } ∧
    (s.rem = 0 → exec (.td f) s = .next { s with pending := s.pending.erase .td })

/-- The push step (40_bus_responder.md R91) is the rule's loop, `min(rem, f)` turns of it; it appends exactly the bytes
`POB[cur ..]`, in order, at most seven; with `rem = 0` or `f = 0` it does nothing. -/
def Obligations.PushIsTheRepeatLoop : Prop :=
  ∀ (f : Nat) (s : State), s.cur + s.rem ≤ 7 →
    push f s = pushLoop (min s.rem f) s ∧
    (push f s).cur = s.cur + min s.rem f ∧
    (push f s).rem = s.rem - min s.rem f ∧
    (push f s).cur + (push f s).rem = s.cur + s.rem ∧
    (push f s).txq.length = s.txq.length + min s.rem f ∧
    min s.rem f ≤ 7 ∧
    (∀ m < s.txq.length, (push f s).txq[m]? = s.txq[m]?) ∧
    (∀ m < min s.rem f, (push f s).txq[s.txq.length + m]? = s.pob.bytes[s.cur + m]?) ∧
    (s.rem = 0 ∨ f = 0 → push f s = s)

/-- Deferral is only delay (40_bus_responder.md R94, 60_exceptions.md R147): a drain event that is owed makes progress, and
what it leaves waits for a later one, nothing dropped or duplicated. -/
def Obligations.OwedDrainMakesProgress : Prop :=
  ∀ s : State, s.DrainOwed → s.cur + s.rem = 7 →
    ∃ t, exec (.td .queue) s = .next t ∧ t.mode = .serving ∧ t.pob = s.pob ∧ t.rem < s.rem ∧ t.cur + t.rem = 7 ∧
      t.txq ++ t.pob.bytes.drop t.cur = s.txq ++ s.pob.bytes.drop s.cur

/-- `BR` (40_bus_responder.md R96): the whole next state. -/
def Obligations.ByteReceivedResult : Prop :=
  ∀ s : State,
    exec .br s = .next { s with
      rxq := []
      rxcnt := s.rxcnt + BitVec.ofNat 32 s.rxq.length
      pending := s.pending.erase .br }

/-- `ST` (40_bus_responder.md R98) with the bus hardware's flush (42_bus_queues.md R134): the whole next state. -/
def Obligations.TransactionStoppedResult : Prop :=
  ∀ s : State,
    exec .st s = .next { s with
      cur := 0
      rem := 0
      mode := .idle
      txq := if s.cfg.txqFlushOnStop = true then [] else s.txq
      pending := s.pending.erase .st }

/-- `mode` is set to `Serving` by Read-Requested, to `Idle` by Transaction-Stopped and by a reset, and written by nothing
else (10_state.md R28, 70_reset_and_hazards.md R160). -/
def Obligations.OnlyReadStopAndResetWriteMode : Prop :=
  ∀ (i : Instr) (s t : State), exec i s = .next t →
    ((∃ f, i = .rr f) → t.mode = .serving) ∧ (i = .st ∨ i = .reset → t.mode = .idle) ∧
    (¬ (∃ f, i = .rr f) → i ≠ .st → i ≠ .reset → t.mode = s.mode)

/-- Exactly once, in order (40_bus_responder.md R93): after an `RR` and any drain events, the bytes pushed are the first
`cur` bytes of the Snapshot, and all seven once the free capacities offered sum to 7 or more. What a written `f` offers is
30_encoding.md R77's to say. -/
def Obligations.DrainsPushThePrefixOnce : Prop :=
  ∀ (s : State) (f : Nat) (fs : List Nat), s.commitOld = none →
    let offered := freeCapacity (.port f) s + (fs.map fun g => freeCapacity (.port g) s).sum
    ∃ t, execSeq (.rr (.port f) :: fs.map (fun g => .td (.port g))) s = .next t ∧
      t.pob = s.snap ∧ t.cur = min 7 offered ∧ t.rem = 7 - min 7 offered ∧
      t.txq = s.txq ++ s.snap.bytes.take (min 7 offered)

/-- The freeze invariant (20_memory.md R61, 40_bus_responder.md R93): whatever operations follow an `RR` up to the next `RR`,
`ST` or reset, `POB` stays the Snapshot of the moment the `RR` ran, and the bytes the master has taken together with those
still queued are the earlier ones and then the first `cur` bytes of it. The list of bytes taken is the model's field (log 15). -/
def Obligations.TransferInFlightIsFrozen : Prop :=
  ∀ (s t : State) (f : FreeOperand) (is : List Instr),
    s.commitOld = none ∨ s.cfg.snapWriteAtomic = true →
    (∀ i ∈ is, i.keepsTransfer = true) → execSeq (.rr f :: is) s = .next t →
    t.pob = s.snap ∧ t.mode = .serving ∧ t.cur + t.rem = 7 ∧
    t.received ++ t.txq = s.received ++ s.txq ++ s.snap.bytes.take t.cur

/-- The closed system's round trip (42_bus_queues.md R138): with any `TXQ_DEPTH >= 1` and an empty transmit queue, after
`RR`, any interleaving of seven `POP`s with drain events and control-channel bytes delivers, if every `POP` has its step,
exactly the seven bytes of the Snapshot of the moment the `RR` ran, in order, and then `TXQ` is empty and `rem = 0`; and every
`POP` has its step if a `TD` follows each that found `rem > 0`, before the next. The list of bytes delivered is the model's
field (log 15). -/
def Obligations.ClosedReadDeliversTheSnapshot : Prop :=
  ∀ (s : State) (is : List Instr), s.commitOld = none ∨ s.cfg.snapWriteAtomic = true → s.txq = [] → 1 ≤ s.cfg.txqDepth →
    (∀ i ∈ is, i = .pop ∨ i = .td .queue ∨ ∃ b, i = .cc b) → is.count .pop = 7 →
    (∀ t, execSeq (.rr .queue :: is) s = .next t →
      t.received = s.received ++ s.snap.bytes ∧ t.txq = [] ∧ t.rem = 0 ∧ t.cur = 7) ∧
    (drainsFollow (.rr .queue :: is) s = true → ∃ t, execSeq (.rr .queue :: is) s = .next t)

/-- The poll of 30_encoding.md R87, `WR 10 ; BR ; ST ; RR ; POP x 7 ; ST`, with `TXQ_DEPTH >= 7`, room for the command byte
and the flush at the stop: it completes, delivers the Snapshot, and leaves the block Idle with both queues empty. -/
def Obligations.PollReturnsTheSnapshot : Prop :=
  ∀ s : State, s.commitOld = none → 7 ≤ s.cfg.txqDepth → s.rxq.length < s.cfg.rxqDepth → s.cfg.txqFlushOnStop = true →
    ∃ t, execSeq ([.wr 0x10, .br, .st, .rr .queue] ++ List.replicate 7 .pop ++ [.st]) s = .next t ∧
      t.received = s.received ++ s.snap.bytes ∧ t.mode = .idle ∧ t.cur = 0 ∧ t.rem = 0 ∧ t.txq = [] ∧ t.rxq = [] ∧
      t.rxcnt = s.rxcnt + BitVec.ofNat 32 (s.rxq.length + 1)

/-- The two shapes of a poll, with a stop between the write and the read or with none, and a read with no write before it,
give the master the same seven bytes, the Snapshot (40_bus_responder.md R99). -/
def Obligations.PollShapesGiveTheSameReply : Prop :=
  ∀ s : State, s.commitOld = none → s.txq = [] → 7 ≤ s.cfg.txqDepth → s.rxq.length < s.cfg.rxqDepth →
    ∀ pre ∈ [[Instr.wr 0x10, .br, .st], [Instr.wr 0x10, .br], []],
      ∃ t, execSeq (pre ++ [.rr .queue] ++ List.replicate 7 .pop) s = .next t ∧
        t.received = s.received ++ s.snap.bytes ∧ t.txq = [] ∧ t.mode = .serving ∧ t.cur = 7

/-- Values of `f` of 7 and more are all alike, and so are values above `TXQ_DEPTH`, which are treated as any `f >= 7`; a smaller
one is taken as it is (30_encoding.md R77). -/
def Obligations.LargeFreeCapacitiesAreAlike : Prop :=
  ∀ (s : State) (f g : Nat), 7 ≤ f → 7 ≤ g ∨ s.cfg.txqDepth < g → s.rem ≤ 7 →
    exec (.rr (.port f)) s = exec (.rr (.port g)) s ∧ exec (.td (.port f)) s = exec (.td (.port g)) s ∧
    ∀ h ≤ s.cfg.txqDepth, freeCapacity (.port h) s = h

/-- No transition of the responder depends on data (40_bus_responder.md R100): with other bytes in `SNAP`, `POB` and
`TXQ` (as many there), an event leads to the same `mode`, `cur`, `rem`, `RXCNT` and number of bytes pushed. -/
def Obligations.SnapshotBytesNeverSteerTheResponder : Prop :=
  ∀ (e : Event) (f : FreeOperand) (s : State) (r p : Record) (q : List Byte), q.length = s.txq.length →
    ∃ t u, exec (e.instr f) s = .next t ∧ exec (e.instr f) { s with snap := r, pob := p, txq := q } = .next u ∧
      t.mode = u.mode ∧ t.cur = u.cur ∧ t.rem = u.rem ∧ t.rxcnt = u.rxcnt ∧ t.rxq = u.rxq ∧
      t.txq.length = u.txq.length ∧ t.pending = u.pending

/-- Bytes the master wrote are never decoded (30_encoding.md R84): only how many there are matters to `BR`, and a byte on the bus
does the same whatever its value. -/
def Obligations.WrittenBytesAreOnlyCounted : Prop :=
  (∀ (s : State) (bs : List Byte), bs.length = s.rxq.length → exec .br { s with rxq := bs } = exec .br s) ∧
  ∀ (s : State) (b c : Byte), step (s.prependWord (.busw b)) = step (s.prependWord (.busw c))

/-- `RXCNT` advances by the number of bytes drained, and each error counter by one, modulo `2^32` (00_scope.md R14). -/
def Obligations.CountersWrapModuloTheirWidth : Prop :=
  (∀ s t : State, exec .br s = .next t → t.rxcnt.toNat = (s.rxcnt.toNat + s.rxq.length) % 2 ^ 32) ∧
  (∀ s : State, (raise .malformedFrame s).badcnt.toNat = (s.badcnt.toNat + 1) % 2 ^ 32) ∧
  (∀ s : State, (raise .bufferOverflow s).ovfcnt.toNat = (s.ovfcnt.toNat + 1) % 2 ^ 32)

/-! ### The bus environment -/

/-- `POP` with a byte queued (42_bus_queues.md R132): the whole next state. The list of bytes the master received is the
model's field (log 15). -/
def Obligations.PopResult : Prop :=
  ∀ (s : State) (b : Byte) (rest : List Byte), s.txq = b :: rest →
    exec .pop s = .next { s with txq := rest, received := s.received ++ [b] }

/-- `POP` with nothing queued has no step (42_bus_queues.md R133; a named fault, log 12), and with `rem = 0` no drain event ends
the wait. -/
def Obligations.PopWithNothingQueuedHasNoStep : Prop :=
  ∀ s : State, s.txq = [] →
    exec .pop s = .fault .popHasNoStep ∧
    (s.rem = 0 → ∀ f, ∃ t, exec (.td f) s = .next t ∧ t.txq = [] ∧ exec .pop t = .fault .popHasNoStep)

/-- `WR b` (42_bus_queues.md R135): with room the whole next state, a Byte-Received event pending (listed
once, log 10); with `RXQ` full no step (log 12). -/
def Obligations.WriteResult : Prop :=
  ∀ (b : Byte) (s : State),
    (s.rxq.length < s.cfg.rxqDepth →
      exec (.wr b) s = .next { s with
        rxq := s.rxq ++ [b]
        pending := if Event.br ∈ s.pending then s.pending else s.pending ++ [Event.br] }) ∧
    (¬ s.rxq.length < s.cfg.rxqDepth → exec (.wr b) s = .fault .wrHasNoStep)

/-- `GET` with room in `RXQ` (30_encoding.md R80, R87; log 5): the command byte is counted with whatever waited before it,
and nothing else changes. With `RXQ` full it has no step, as its `WR` has none (log 12). -/
def Obligations.GetCommandIsCounted : Prop :=
  ∀ s : State,
    (s.rxq.length < s.cfg.rxqDepth →
      exec .get s = .next { s with
        rxq := []
        rxcnt := s.rxcnt + BitVec.ofNat 32 (s.rxq.length + 1)
        pending := s.pending.erase .br }) ∧
    (¬ s.rxq.length < s.cfg.rxqDepth → exec .get s = .fault .wrHasNoStep)

/-- In the closed system the transmit queue never exceeds `TXQ_DEPTH` (42_bus_queues.md R131). -/
def Obligations.ClosedTransmitQueueIsBounded : Prop :=
  ∀ (i : Instr) (s t : State), i.closed = true → s.txq.length ≤ s.cfg.txqDepth → exec i s = .next t →
    t.txq.length ≤ t.cfg.txqDepth

/-! ### The Frame Parser -/

/-- `FindStart` (41_frame_parser.md R113): the least index of a start marker, none if there is none. -/
def Obligations.FindStartIsTheLeastIndex : Prop :=
  ∀ l : List Byte,
    (∀ i, findStart l = some i ↔
      (i + 2 ≤ l.length ∧ l[i]? = some (0x55 : Byte) ∧ l[i + 1]? = some (0xAA : Byte)) ∧
        ∀ k < i, ¬ (l[k]? = some (0x55 : Byte) ∧ l[k + 1]? = some (0xAA : Byte))) ∧
    (findStart l = none ↔ ∀ i, ¬ (l[i]? = some (0x55 : Byte) ∧ l[i + 1]? = some (0xAA : Byte)))

/-- `FindEnd(i)` (41_frame_parser.md R114): the least index from `i + 2` on of an end marker, none if there is none. -/
def Obligations.FindEndIsTheLeastIndexAfterTheStart : Prop :=
  ∀ (l : List Byte) (i : Nat),
    (∀ j, findEnd i l = some j ↔
      (i + 2 ≤ j ∧ j + 2 ≤ l.length ∧ l[j]? = some (0x0D : Byte) ∧ l[j + 1]? = some (0x0A : Byte)) ∧
        ∀ k, i + 2 ≤ k → k < j → ¬ (l[k]? = some (0x0D : Byte) ∧ l[k + 1]? = some (0x0A : Byte))) ∧
    (findEnd i l = none ↔ ∀ j, i + 2 ≤ j → ¬ (l[j]? = some (0x0D : Byte) ∧ l[j + 1]? = some (0x0A : Byte)))

/-- With a start marker at `i`, a scan for the end marker that begins at `i` itself finds the same index, because no end
marker can overlap the start marker (the spec's inference in 41_frame_parser.md R114). -/
def Obligations.ScanFromTheStartFindsTheSameEnd : Prop :=
  ∀ (l : List Byte) (i : Nat), l[i]? = some (0x55 : Byte) → l[i + 1]? = some (0xAA : Byte) →
    findEnd i l = (findPair 0x0D 0x0A (l.drop i)).map (· + i)

/-- `CC b` with no complete span after the append (41_frame_parser.md R111, R112): the whole next state. The byte goes to
the tail; with `n = 16` the oldest byte is lost and `OVFCNT` advances. -/
def Obligations.ByteWithoutASpanIsOnlyAppended : Prop :=
  ∀ (b : Byte) (s : State), NoSpan (appended b s) →
    (s.n < 16 → exec (.cc b) s = .next { s with iab := s.iab ++ [b] }) ∧
    (s.n = 16 → exec (.cc b) s = .next { s with iab := s.iab.drop 1 ++ [b], ovfcnt := s.ovfcnt + 1 })

/-- `CC b` that completes a span of exactly seven payload bytes (41_frame_parser.md R116, R118): the whole next state. All
seven bytes are replaced, none is checked, and the buffer keeps what follows the end marker. -/
def Obligations.SpanOfSevenIsCommitted : Prop :=
  ∀ (b : Byte) (s : State) (i j : Nat) (r : Record),
    findStart (appended b s) = some i → findEnd i (appended b s) = some j → j = i + 9 →
    r.bytes = ((appended b s).drop (i + 2)).take 7 →
    exec (.cc b) s = .next { s with
      snap := r
      iab := (appended b s).drop (j + 2)
      ovfcnt := if s.n = 16 then s.ovfcnt + 1 else s.ovfcnt }

/-- Such a record exists whenever the span is complete: a commit never fails for want of bytes (30_encoding.md R78). -/
def Obligations.CompleteSpanHoldsARecord : Prop :=
  ∀ (l : List Byte) (i j : Nat), findStart l = some i → findEnd i l = some j → payloadLength i j = 7 →
    ∃ r : Record, Record.ofBytes (payload i j l) = some r ∧ ∀ k < 7, r.bytes[k]? = l[i + 2 + k]?

/-- `CC b` that completes a span of another length (41_frame_parser.md R117, R118): the whole next state. The Snapshot is
not written and `BADCNT` advances. -/
def Obligations.SpanOfAnotherLengthIsRejected : Prop :=
  ∀ (b : Byte) (s : State) (i j : Nat),
    findStart (appended b s) = some i → findEnd i (appended b s) = some j → j ≠ i + 9 →
    exec (.cc b) s = .next { s with
      badcnt := s.badcnt + 1
      iab := (appended b s).drop (j + 2)
      ovfcnt := if s.n = 16 then s.ovfcnt + 1 else s.ovfcnt }

/-- The parser takes every byte and every frame (41_frame_parser.md R119): `CC` and `FRAME` answer a next state from every
state, and leave the responder's and the bus hardware's state alone (10_state.md R21). -/
def Obligations.ParserTakesEveryByteAndKeepsOut : Prop :=
  ∀ (i : Instr) (s : State), (∃ b, i = .cc b) ∨ (∃ p, i = .frame p) →
    ∃ t, exec i s = .next t ∧
      t.pob = s.pob ∧ t.mode = s.mode ∧ t.cur = s.cur ∧ t.rem = s.rem ∧ t.rxcnt = s.rxcnt ∧ t.txq = s.txq ∧
      t.rxq = s.rxq ∧ t.pending = s.pending ∧ t.cfg = s.cfg ∧ t.received = s.received ∧ t.inputs = s.inputs

/-- `FRAME p` is the eleven `CC` operations, and `GET` the two operations, that 30_encoding.md R87 expands them to
(logs 4, 5). -/
def Obligations.PatternsAreTheirExpansions : Prop :=
  (∀ (p : Record) (s : State), exec (.frame p) s =
    execSeq [.cc 0x55, .cc 0xAA, .cc p.buttonsLo, .cc p.buttonsHi, .cc p.dpad, .cc p.leftX, .cc p.leftY, .cc p.rightX,
      .cc p.rightY, .cc 0x0D, .cc 0x0A] s) ∧
  (∀ s : State, exec .get s = execSeq [.wr 0x10, .br] s)

/-- Acceptance (41_frame_parser.md R124 item 1): from any state with no start marker in the buffer, a frame whose payload
holds no adjacent `0D 0A` is accepted; loose bytes of any number up to 16 slide out ahead of it. -/
def Obligations.FrameIsAccepted : Prop :=
  ∀ (s : State) (p : Record), NoStart s.iab → s.n ≤ 16 → NoEnd p.bytes →
    exec (.frame p) s = .next { s with
      snap := p
      iab := []
      ovfcnt := s.ovfcnt + BitVec.ofNat 32 (s.n + 11 - 16) }

/-- Rejection (41_frame_parser.md R124 item 2): from the same states, a payload of another length up to 12 with no adjacent
`0D 0A`, between markers, leaves the Snapshot, adds 1 to `BADCNT` and empties the buffer. -/
def Obligations.PayloadOfAnotherLengthIsDropped : Prop :=
  ∀ (s : State) (q : List Byte), NoStart s.iab → s.n ≤ 16 → q.length ≤ 12 → q.length ≠ 7 → NoEnd q →
    ∃ t, execSeq (([0x55, 0xAA] ++ q ++ [0x0D, 0x0A]).map .cc) s = .next t ∧
      t.snap = s.snap ∧ t.badcnt = s.badcnt + 1 ∧ t.iab = []

/-- Idempotence (41_frame_parser.md R124 item 3): the same frame twice leaves the Snapshot as after the first. -/
def Obligations.SameFrameTwiceIsIdempotent : Prop :=
  ∀ (s : State) (p : Record), NoStart s.iab → s.n ≤ 16 → NoEnd p.bytes →
    ∃ t u, exec (.frame p) s = .next t ∧ exec (.frame p) t = .next u ∧ t.snap = p ∧ u = t

/-- Bounded buffer (41_frame_parser.md R124 item 4): bytes that never complete a span leave the buffer holding the latest
16, count what was lost, and change nothing else. -/
def Obligations.BufferHoldsTheLatestBytes : Prop :=
  ∀ (s : State) (bs : List Byte), s.n ≤ 16 → NoSpan (s.iab ++ bs) →
    execSeq (bs.map .cc) s = .next { s with
      iab := (s.iab ++ bs).drop ((s.iab ++ bs).length - 16)
      ovfcnt := s.ovfcnt + BitVec.ofNat 32 ((s.iab ++ bs).length - 16) }

/-- One frame per operation (41_frame_parser.md R122): from a buffer with no complete span, after a `CC` the buffer is
empty, or the byte was only appended and nothing was accepted or rejected. -/
def Obligations.HandledSpanEmptiesTheBuffer : Prop :=
  ∀ (b : Byte) (s t : State), NoSpan s.iab → exec (.cc b) s = .next t →
    NoSpan t.iab ∧ (t.iab = [] ∨ (t.iab = appended b s ∧ t.snap = s.snap ∧ t.badcnt = s.badcnt))

/-- `L = j - (i + 2)` and `0 <= L <= 12` inside a 16-byte buffer (41_frame_parser.md R115). -/
def Obligations.PayloadLengthIsAtMostTwelve : Prop :=
  ∀ (l : List Byte) (i j : Nat), l.length ≤ 16 → findStart l = some i → findEnd i l = some j →
    payloadLength i j = j - (i + 2) ∧ (payload i j l).length = payloadLength i j ∧ payloadLength i j ≤ 12

/-- `IAB` is first-in first-out (20_memory.md R65): after a `CC` it is a tail of the old bytes with the new one behind;
what left, left from the front: one byte, or a prefix that ends with an end marker, or both. -/
def Obligations.BytesLeaveTheBufferFromTheFront : Prop :=
  ∀ (b : Byte) (s t : State), exec (.cc b) s = .next t →
    t.iab <:+ s.iab ++ [b] ∧
    (t.iab = appended b s ∨ ∃ j, EndAt (appended b s) j ∧ t.iab = (appended b s).drop (j + 2))

/-- A payload with an adjacent `0D 0A` is cut short and lost (41_frame_parser.md R120, 70_reset_and_hazards.md R163): the
fragility is kept, the Snapshot does not change. With the first such pair at offset `k`, the span of length `k` is rejected and
the payload tail and the real end marker stay as loose bytes, where they complete no span of their own: the whole next state. -/
def Obligations.PayloadWithAnEndMarkerIsLost : Prop :=
  ∀ (s : State) (p : Record) (k : Nat), NoStart s.iab → s.n ≤ 16 → EndAt p.bytes k →
    (∃ t, exec (.frame p) s = .next t ∧ t.snap = s.snap ∧ t.badcnt ≠ s.badcnt) ∧
    ((∀ m < k, ¬ EndAt p.bytes m) → NoSpan (p.bytes.drop (k + 2) ++ [0x0D, 0x0A]) →
      exec (.frame p) s = .next { s with
        iab := p.bytes.drop (k + 2) ++ [0x0D, 0x0A]
        badcnt := s.badcnt + 1
        ovfcnt := s.ovfcnt + BitVec.ofNat 32 (s.n + (k + 4) - 16) })

/-- A long span is never seen as a frame (41_frame_parser.md R121): from a buffer with no start marker, thirteen or more
payload bytes with no marker in them, between markers, are neither accepted nor rejected; the buffer keeps the latest 16. -/
def Obligations.LongSpanIsNeverAFrame : Prop :=
  ∀ (s : State) (q : List Byte), NoStart s.iab → s.n ≤ 16 → 13 ≤ q.length → NoStart q → NoEnd q →
    execSeq (([0x55, 0xAA] ++ q ++ [0x0D, 0x0A]).map .cc) s = .next { s with
      iab := ([0xAA] ++ q ++ [0x0D, 0x0A]).drop (q.length + 3 - 16)
      ovfcnt := s.ovfcnt + BitVec.ofNat 32 (s.n + (q.length + 4) - 16) }

/-- A stale start marker captures the next frame (70_reset_and_hazards.md R164): the good frame is rejected with the stale
bytes. -/
def Obligations.StaleStartMarkerCapturesTheFrame : Prop :=
  ∀ (s : State) (q : List Byte) (p : Record), s.iab = [0x55, 0xAA] ++ q → q.length ≤ 3 → NoEnd q → NoEnd p.bytes →
    exec (.frame p) s = .next { s with iab := [], badcnt := s.badcnt + 1 }

/-! ### The record, the ports, reset -/

/-- The button mask is little-endian (20_memory.md R51). -/
def Obligations.ButtonMaskIsLittleEndian : Prop :=
  (∀ r : Record, some (r.buttons.extractLsb' 0 8) = r.bytes[0]? ∧ some (r.buttons.extractLsb' 8 8) = r.bytes[1]?) ∧
  Record.buttons ⟨0x01, 0x02, 0x03, 0x04, 0x05, 0x06, 0x07⟩ = 0x0201

/-- The diagnostic port (10_state.md R29, R45): the registers by number, each value shown whole while it is legal. That `mode`,
`cur`, `rem` and `n` are zero-extended to the width of the port is the model's, DEDUCED from R45 (log 17). -/
def Obligations.DiagnosticPortShowsTheRegisters : Prop :=
  ∀ s : State,
    diagOut 0 s = some (if s.mode = .serving then 1 else 0) ∧
    (s.cur ≤ 7 → ∃ v, diagOut 1 s = some v ∧ v.toNat = s.cur) ∧
    (s.rem ≤ 7 → ∃ v, diagOut 2 s = some v ∧ v.toNat = s.rem) ∧
    (s.iab.length ≤ 16 → ∃ v, diagOut 3 s = some v ∧ v.toNat = s.iab.length) ∧
    diagOut 4 s = some s.rxcnt ∧ diagOut 5 s = some s.badcnt ∧ diagOut 6 s = some s.ovfcnt

/-- `RESET` (70_reset_and_hazards.md R160) completes from every state, and every piece of the block and of the queues
but the unspecified `POB` holds its reset value; `SNAP` the parameter `SNAP_RESET`, whichever it is. -/
def Obligations.ResetResult : Prop :=
  ∀ s : State, ∃ t, exec .reset s = .next t ∧
    t.snap = s.cfg.snapReset ∧ t.iab = [] ∧ t.n = 0 ∧ t.mode = .idle ∧ t.cur = 0 ∧ t.rem = 0 ∧
    t.rxcnt = 0 ∧ t.badcnt = 0 ∧ t.ovfcnt = 0 ∧ t.txq = [] ∧ t.rxq = [] ∧ t.pending = []

/-- But for the unspecified `POB`, of which this says nothing, no piece of the block or of the queues survives a reset: with the
same parameters it is the same whatever the state before (70_reset_and_hazards.md R160). -/
def Obligations.NothingButUnspecifiedPobMaySurviveAReset : Prop :=
  ∀ s t s' t' : State, s.cfg = t.cfg → exec .reset s = .next s' → exec .reset t = .next t' →
    s'.snap = t'.snap ∧ s'.iab = t'.iab ∧ s'.mode = t'.mode ∧ s'.cur = t'.cur ∧ s'.rem = t'.rem ∧
    s'.rxcnt = t'.rxcnt ∧ s'.badcnt = t'.badcnt ∧ s'.ovfcnt = t'.ovfcnt ∧ s'.txq = t'.txq ∧ s'.rxq = t'.rxq ∧
    s'.pending = t'.pending

/-- The state after reset (10_state.md R46): the decided values, and `SNAP` at the open parameter. -/
def Obligations.ResetStateHoldsTheDecidedValues : Prop :=
  State.reset.iab = [] ∧ State.reset.n = 0 ∧ State.reset.mode = .idle ∧ State.reset.cur = 0 ∧ State.reset.rem = 0 ∧
  State.reset.rxcnt = 0 ∧ State.reset.badcnt = 0 ∧ State.reset.ovfcnt = 0 ∧ State.reset.txq = [] ∧
  State.reset.rxq = [] ∧ State.reset.pending = [] ∧ State.reset.snap = State.reset.cfg.snapReset

/-! ### The whole machine -/

/-- Ownership (10_state.md R21): the responder and the bus environment write none of the parser's state, and the parser
none of the responder's. Only `RESET` writes both. -/
def Obligations.EachPieceOfStateHasOneWriter : Prop :=
  ∀ (i : Instr) (s t : State), exec i s = .next t →
    (i.mayWriteSnap = false → t.snap = s.snap ∧ t.iab = s.iab ∧ t.badcnt = s.badcnt ∧ t.ovfcnt = s.ovfcnt) ∧
    ((∃ b, i = .cc b) ∨ (∃ p, i = .frame p) ∨ i = .pop ∨ (∃ b, i = .wr b) →
      t.pob = s.pob ∧ t.mode = s.mode ∧ t.cur = s.cur ∧ t.rem = s.rem ∧ t.rxcnt = s.rxcnt) ∧
    t.cfg = s.cfg

/-- No error is a trap (60_exceptions.md R141, 40_bus_responder.md R90): every operation of the block answers a next state
from every state; the only operations without a step are the environment's, `POP` with `TXQ` empty and `WR` (with `GET`)
with `RXQ` full, which end in named faults (log 12). No step refuses anything (log 19). -/
def Obligations.OnlyTheEnvironmentCanHaveNoStep : Prop :=
  (∀ (i : Instr) (s : State),
    (¬ (i = .pop ∧ s.txq = []) → ¬ (((∃ b, i = .wr b) ∨ i = .get) ∧ s.cfg.rxqDepth ≤ s.rxq.length) →
      ∃ t, exec i s = .next t) ∧
    (i = .pop → s.txq = [] → exec i s = .fault .popHasNoStep) ∧
    (((∃ b, i = .wr b) ∨ i = .get) → s.cfg.rxqDepth ≤ s.rxq.length → exec i s = .fault .wrHasNoStep)) ∧
  ∀ (s : State) (r : Refusal), step s ≠ .refused r

/-- The invariant is kept by every step from every state that meets it: `mode`, `cur` and `rem` agree (10_state.md R28),
`n <= 16` (R24), no complete span waits in the buffer (41_frame_parser.md R122), the receive queue is bounded
(10_state.md R43), and a written byte has its event pending (60_exceptions.md R145). -/
def Obligations.EveryStepKeepsTheInvariant : Prop :=
  ∀ s t : State, s.Inv → step s = .next t → t.Inv

/-- The invariant holds after reset. -/
def Obligations.ResetMeetsTheInvariant : Prop := State.reset.Inv
end

