-- ==== Sys2Proof/Laws/Decode.lean ====
section
/-! SUPPORT. The parts of the decoder against the parts of the encoder. -/

namespace Sys2Proof

/-- The only bytes that are read as a frame with payload `p` are the frame with payload `p`. -/
theorem framePayload_some (bs : List Byte) (p : Record) : framePayload bs = some p ↔ bs = frameBytes p := by
  constructor
  · intro h
    unfold framePayload at h
    split at h
    · split at h
      · rename_i hm
        obtain ⟨rfl, rfl, rfl, rfl⟩ := hm
        cases h
        rfl
      · cases h
    · cases h
  · rintro rfl
    rfl

theorem ofCode_code (e : Event) : Event.ofCode e.code = e := by cases e <;> rfl

theorem code_ofCode (c : BitVec 2) : (Event.ofCode c).code = c := by revert c; decide

theorem ofPort_onPort (f : FreeOperand) (h : f.wf = true) : FreeOperand.ofPort f.onPort = f := by
  cases f with
  | queue => rfl
  | port n =>
    have hn : n < 32 := by simpa [FreeOperand.wf] using h
    simp only [FreeOperand.onPort, FreeOperand.ofPort, BitVec.toNat_ofNat, Nat.mod_eq_of_lt hn]

theorem onPort_ofPort (v : Option (BitVec 5)) : (FreeOperand.ofPort v).onPort = v := by
  cases v with
  | none => rfl
  | some v => simp [FreeOperand.onPort, FreeOperand.ofPort]

end Sys2Proof
end

