-- ==== Sys2Proof/Laws/State.lean ====
section
/-! SUPPORT. One lemma per field per shared operation: what each leaves alone, and what it writes. Later proofs use these
and do not unfold the operations. -/

namespace Sys2Proof.Machine

/-! ### Plain record updates: true by rfl -/

@[simp] theorem startServing_snap (s : State) : (startServing s).snap = s.snap := rfl
@[simp] theorem startServing_pob (s : State) : (startServing s).pob = s.pob := rfl
@[simp] theorem startServing_iab (s : State) : (startServing s).iab = s.iab := rfl
@[simp] theorem startServing_mode (s : State) : (startServing s).mode = .serving := rfl
@[simp] theorem startServing_cur (s : State) : (startServing s).cur = 0 := rfl
@[simp] theorem startServing_rem (s : State) : (startServing s).rem = 7 := rfl
@[simp] theorem startServing_rxcnt (s : State) : (startServing s).rxcnt = s.rxcnt := rfl
@[simp] theorem startServing_badcnt (s : State) : (startServing s).badcnt = s.badcnt := rfl
@[simp] theorem startServing_ovfcnt (s : State) : (startServing s).ovfcnt = s.ovfcnt := rfl
@[simp] theorem startServing_txq (s : State) : (startServing s).txq = s.txq := rfl
@[simp] theorem startServing_rxq (s : State) : (startServing s).rxq = s.rxq := rfl
@[simp] theorem startServing_pending (s : State) : (startServing s).pending = s.pending := rfl
@[simp] theorem startServing_cfg (s : State) : (startServing s).cfg = s.cfg := rfl
@[simp] theorem startServing_received (s : State) : (startServing s).received = s.received := rfl
@[simp] theorem startServing_inputs (s : State) : (startServing s).inputs = s.inputs := rfl
@[simp] theorem startServing_commitOld (s : State) : (startServing s).commitOld = s.commitOld := rfl
@[simp] theorem startServing_freeIdx (s : State) : (startServing s).freeIdx = s.freeIdx := rfl

@[simp] theorem stopServing_snap (s : State) : (stopServing s).snap = s.snap := rfl
@[simp] theorem stopServing_pob (s : State) : (stopServing s).pob = s.pob := rfl
@[simp] theorem stopServing_iab (s : State) : (stopServing s).iab = s.iab := rfl
@[simp] theorem stopServing_mode (s : State) : (stopServing s).mode = .idle := rfl
@[simp] theorem stopServing_cur (s : State) : (stopServing s).cur = 0 := rfl
@[simp] theorem stopServing_rem (s : State) : (stopServing s).rem = 0 := rfl
@[simp] theorem stopServing_rxcnt (s : State) : (stopServing s).rxcnt = s.rxcnt := rfl
@[simp] theorem stopServing_badcnt (s : State) : (stopServing s).badcnt = s.badcnt := rfl
@[simp] theorem stopServing_ovfcnt (s : State) : (stopServing s).ovfcnt = s.ovfcnt := rfl
@[simp] theorem stopServing_txq (s : State) : (stopServing s).txq = s.txq := rfl
@[simp] theorem stopServing_rxq (s : State) : (stopServing s).rxq = s.rxq := rfl
@[simp] theorem stopServing_pending (s : State) : (stopServing s).pending = s.pending := rfl
@[simp] theorem stopServing_cfg (s : State) : (stopServing s).cfg = s.cfg := rfl
@[simp] theorem stopServing_received (s : State) : (stopServing s).received = s.received := rfl
@[simp] theorem stopServing_inputs (s : State) : (stopServing s).inputs = s.inputs := rfl
@[simp] theorem stopServing_commitOld (s : State) : (stopServing s).commitOld = s.commitOld := rfl
@[simp] theorem stopServing_freeIdx (s : State) : (stopServing s).freeIdx = s.freeIdx := rfl

@[simp] theorem raise_malformed_snap (s : State) : (raise .malformedFrame s).snap = s.snap := rfl
@[simp] theorem raise_malformed_pob (s : State) : (raise .malformedFrame s).pob = s.pob := rfl
@[simp] theorem raise_malformed_iab (s : State) : (raise .malformedFrame s).iab = s.iab := rfl
@[simp] theorem raise_malformed_mode (s : State) : (raise .malformedFrame s).mode = s.mode := rfl
@[simp] theorem raise_malformed_cur (s : State) : (raise .malformedFrame s).cur = s.cur := rfl
@[simp] theorem raise_malformed_rem (s : State) : (raise .malformedFrame s).rem = s.rem := rfl
@[simp] theorem raise_malformed_rxcnt (s : State) : (raise .malformedFrame s).rxcnt = s.rxcnt := rfl
@[simp] theorem raise_malformed_badcnt (s : State) : (raise .malformedFrame s).badcnt = s.badcnt + 1 := rfl
@[simp] theorem raise_malformed_ovfcnt (s : State) : (raise .malformedFrame s).ovfcnt = s.ovfcnt := rfl
@[simp] theorem raise_malformed_txq (s : State) : (raise .malformedFrame s).txq = s.txq := rfl
@[simp] theorem raise_malformed_rxq (s : State) : (raise .malformedFrame s).rxq = s.rxq := rfl
@[simp] theorem raise_malformed_pending (s : State) : (raise .malformedFrame s).pending = s.pending := rfl
@[simp] theorem raise_malformed_cfg (s : State) : (raise .malformedFrame s).cfg = s.cfg := rfl
@[simp] theorem raise_malformed_received (s : State) : (raise .malformedFrame s).received = s.received := rfl
@[simp] theorem raise_malformed_inputs (s : State) : (raise .malformedFrame s).inputs = s.inputs := rfl
@[simp] theorem raise_malformed_commitOld (s : State) : (raise .malformedFrame s).commitOld = s.commitOld := rfl
@[simp] theorem raise_malformed_freeIdx (s : State) : (raise .malformedFrame s).freeIdx = s.freeIdx := rfl

@[simp] theorem raise_overflow_snap (s : State) : (raise .bufferOverflow s).snap = s.snap := rfl
@[simp] theorem raise_overflow_pob (s : State) : (raise .bufferOverflow s).pob = s.pob := rfl
@[simp] theorem raise_overflow_iab (s : State) : (raise .bufferOverflow s).iab = s.iab := rfl
@[simp] theorem raise_overflow_mode (s : State) : (raise .bufferOverflow s).mode = s.mode := rfl
@[simp] theorem raise_overflow_cur (s : State) : (raise .bufferOverflow s).cur = s.cur := rfl
@[simp] theorem raise_overflow_rem (s : State) : (raise .bufferOverflow s).rem = s.rem := rfl
@[simp] theorem raise_overflow_rxcnt (s : State) : (raise .bufferOverflow s).rxcnt = s.rxcnt := rfl
@[simp] theorem raise_overflow_badcnt (s : State) : (raise .bufferOverflow s).badcnt = s.badcnt := rfl
@[simp] theorem raise_overflow_ovfcnt (s : State) : (raise .bufferOverflow s).ovfcnt = s.ovfcnt + 1 := rfl
@[simp] theorem raise_overflow_txq (s : State) : (raise .bufferOverflow s).txq = s.txq := rfl
@[simp] theorem raise_overflow_rxq (s : State) : (raise .bufferOverflow s).rxq = s.rxq := rfl
@[simp] theorem raise_overflow_pending (s : State) : (raise .bufferOverflow s).pending = s.pending := rfl
@[simp] theorem raise_overflow_cfg (s : State) : (raise .bufferOverflow s).cfg = s.cfg := rfl
@[simp] theorem raise_overflow_received (s : State) : (raise .bufferOverflow s).received = s.received := rfl
@[simp] theorem raise_overflow_inputs (s : State) : (raise .bufferOverflow s).inputs = s.inputs := rfl
@[simp] theorem raise_overflow_commitOld (s : State) : (raise .bufferOverflow s).commitOld = s.commitOld := rfl
@[simp] theorem raise_overflow_freeIdx (s : State) : (raise .bufferOverflow s).freeIdx = s.freeIdx := rfl

@[simp] theorem takeEvent_snap (e : Event) (s : State) : (takeEvent e s).snap = s.snap := rfl
@[simp] theorem takeEvent_pob (e : Event) (s : State) : (takeEvent e s).pob = s.pob := rfl
@[simp] theorem takeEvent_iab (e : Event) (s : State) : (takeEvent e s).iab = s.iab := rfl
@[simp] theorem takeEvent_mode (e : Event) (s : State) : (takeEvent e s).mode = s.mode := rfl
@[simp] theorem takeEvent_cur (e : Event) (s : State) : (takeEvent e s).cur = s.cur := rfl
@[simp] theorem takeEvent_rem (e : Event) (s : State) : (takeEvent e s).rem = s.rem := rfl
@[simp] theorem takeEvent_rxcnt (e : Event) (s : State) : (takeEvent e s).rxcnt = s.rxcnt := rfl
@[simp] theorem takeEvent_badcnt (e : Event) (s : State) : (takeEvent e s).badcnt = s.badcnt := rfl
@[simp] theorem takeEvent_ovfcnt (e : Event) (s : State) : (takeEvent e s).ovfcnt = s.ovfcnt := rfl
@[simp] theorem takeEvent_txq (e : Event) (s : State) : (takeEvent e s).txq = s.txq := rfl
@[simp] theorem takeEvent_rxq (e : Event) (s : State) : (takeEvent e s).rxq = s.rxq := rfl
@[simp] theorem takeEvent_pending (e : Event) (s : State) : (takeEvent e s).pending = s.pending.erase e := rfl
@[simp] theorem takeEvent_cfg (e : Event) (s : State) : (takeEvent e s).cfg = s.cfg := rfl
@[simp] theorem takeEvent_received (e : Event) (s : State) : (takeEvent e s).received = s.received := rfl
@[simp] theorem takeEvent_inputs (e : Event) (s : State) : (takeEvent e s).inputs = s.inputs := rfl
@[simp] theorem takeEvent_commitOld (e : Event) (s : State) : (takeEvent e s).commitOld = s.commitOld := rfl
@[simp] theorem takeEvent_freeIdx (e : Event) (s : State) : (takeEvent e s).freeIdx = s.freeIdx := rfl

@[simp] theorem push_snap (f : Nat) (s : State) : (push f s).snap = s.snap := rfl
@[simp] theorem push_pob (f : Nat) (s : State) : (push f s).pob = s.pob := rfl
@[simp] theorem push_iab (f : Nat) (s : State) : (push f s).iab = s.iab := rfl
@[simp] theorem push_mode (f : Nat) (s : State) : (push f s).mode = s.mode := rfl
@[simp] theorem push_cur (f : Nat) (s : State) : (push f s).cur = s.cur + min s.rem f := rfl
@[simp] theorem push_rem (f : Nat) (s : State) : (push f s).rem = s.rem - min s.rem f := rfl
@[simp] theorem push_rxcnt (f : Nat) (s : State) : (push f s).rxcnt = s.rxcnt := rfl
@[simp] theorem push_badcnt (f : Nat) (s : State) : (push f s).badcnt = s.badcnt := rfl
@[simp] theorem push_ovfcnt (f : Nat) (s : State) : (push f s).ovfcnt = s.ovfcnt := rfl
@[simp] theorem push_txq (f : Nat) (s : State) : (push f s).txq = s.txq ++ (s.pob.bytes.drop s.cur).take (min s.rem f) := rfl
@[simp] theorem push_rxq (f : Nat) (s : State) : (push f s).rxq = s.rxq := rfl
@[simp] theorem push_pending (f : Nat) (s : State) : (push f s).pending = s.pending := rfl
@[simp] theorem push_cfg (f : Nat) (s : State) : (push f s).cfg = s.cfg := rfl
@[simp] theorem push_received (f : Nat) (s : State) : (push f s).received = s.received := rfl
@[simp] theorem push_inputs (f : Nat) (s : State) : (push f s).inputs = s.inputs := rfl
@[simp] theorem push_commitOld (f : Nat) (s : State) : (push f s).commitOld = s.commitOld := rfl
@[simp] theorem push_freeIdx (f : Nat) (s : State) : (push f s).freeIdx = s.freeIdx := rfl

@[simp] theorem pushOne_snap (s : State) : (pushOne s).snap = s.snap := rfl
@[simp] theorem pushOne_pob (s : State) : (pushOne s).pob = s.pob := rfl
@[simp] theorem pushOne_iab (s : State) : (pushOne s).iab = s.iab := rfl
@[simp] theorem pushOne_mode (s : State) : (pushOne s).mode = s.mode := rfl
@[simp] theorem pushOne_cur (s : State) : (pushOne s).cur = s.cur + 1 := rfl
@[simp] theorem pushOne_rem (s : State) : (pushOne s).rem = s.rem - 1 := rfl
@[simp] theorem pushOne_rxcnt (s : State) : (pushOne s).rxcnt = s.rxcnt := rfl
@[simp] theorem pushOne_badcnt (s : State) : (pushOne s).badcnt = s.badcnt := rfl
@[simp] theorem pushOne_ovfcnt (s : State) : (pushOne s).ovfcnt = s.ovfcnt := rfl
@[simp] theorem pushOne_txq (s : State) : (pushOne s).txq = s.txq ++ (s.pob.bytes.drop s.cur).take 1 := rfl
@[simp] theorem pushOne_rxq (s : State) : (pushOne s).rxq = s.rxq := rfl
@[simp] theorem pushOne_pending (s : State) : (pushOne s).pending = s.pending := rfl
@[simp] theorem pushOne_cfg (s : State) : (pushOne s).cfg = s.cfg := rfl
@[simp] theorem pushOne_received (s : State) : (pushOne s).received = s.received := rfl
@[simp] theorem pushOne_inputs (s : State) : (pushOne s).inputs = s.inputs := rfl
@[simp] theorem pushOne_commitOld (s : State) : (pushOne s).commitOld = s.commitOld := rfl
@[simp] theorem pushOne_freeIdx (s : State) : (pushOne s).freeIdx = s.freeIdx := rfl

@[simp] theorem append_snap (b : Byte) (s : State) : (append b s).snap = s.snap := rfl
@[simp] theorem append_pob (b : Byte) (s : State) : (append b s).pob = s.pob := rfl
@[simp] theorem append_iab (b : Byte) (s : State) : (append b s).iab = s.iab ++ [b] := rfl
@[simp] theorem append_mode (b : Byte) (s : State) : (append b s).mode = s.mode := rfl
@[simp] theorem append_cur (b : Byte) (s : State) : (append b s).cur = s.cur := rfl
@[simp] theorem append_rem (b : Byte) (s : State) : (append b s).rem = s.rem := rfl
@[simp] theorem append_rxcnt (b : Byte) (s : State) : (append b s).rxcnt = s.rxcnt := rfl
@[simp] theorem append_badcnt (b : Byte) (s : State) : (append b s).badcnt = s.badcnt := rfl
@[simp] theorem append_ovfcnt (b : Byte) (s : State) : (append b s).ovfcnt = s.ovfcnt := rfl
@[simp] theorem append_txq (b : Byte) (s : State) : (append b s).txq = s.txq := rfl
@[simp] theorem append_rxq (b : Byte) (s : State) : (append b s).rxq = s.rxq := rfl
@[simp] theorem append_pending (b : Byte) (s : State) : (append b s).pending = s.pending := rfl
@[simp] theorem append_cfg (b : Byte) (s : State) : (append b s).cfg = s.cfg := rfl
@[simp] theorem append_received (b : Byte) (s : State) : (append b s).received = s.received := rfl
@[simp] theorem append_inputs (b : Byte) (s : State) : (append b s).inputs = s.inputs := rfl
@[simp] theorem append_commitOld (b : Byte) (s : State) : (append b s).commitOld = s.commitOld := rfl
@[simp] theorem append_freeIdx (b : Byte) (s : State) : (append b s).freeIdx = s.freeIdx := rfl

@[simp] theorem overflowAppend_snap (b : Byte) (s : State) : (overflowAppend b s).snap = s.snap := rfl
@[simp] theorem overflowAppend_pob (b : Byte) (s : State) : (overflowAppend b s).pob = s.pob := rfl
@[simp] theorem overflowAppend_iab (b : Byte) (s : State) : (overflowAppend b s).iab = s.iab.drop 1 ++ [b] := rfl
@[simp] theorem overflowAppend_mode (b : Byte) (s : State) : (overflowAppend b s).mode = s.mode := rfl
@[simp] theorem overflowAppend_cur (b : Byte) (s : State) : (overflowAppend b s).cur = s.cur := rfl
@[simp] theorem overflowAppend_rem (b : Byte) (s : State) : (overflowAppend b s).rem = s.rem := rfl
@[simp] theorem overflowAppend_rxcnt (b : Byte) (s : State) : (overflowAppend b s).rxcnt = s.rxcnt := rfl
@[simp] theorem overflowAppend_badcnt (b : Byte) (s : State) : (overflowAppend b s).badcnt = s.badcnt := rfl
@[simp] theorem overflowAppend_ovfcnt (b : Byte) (s : State) : (overflowAppend b s).ovfcnt = s.ovfcnt + 1 := rfl
@[simp] theorem overflowAppend_txq (b : Byte) (s : State) : (overflowAppend b s).txq = s.txq := rfl
@[simp] theorem overflowAppend_rxq (b : Byte) (s : State) : (overflowAppend b s).rxq = s.rxq := rfl
@[simp] theorem overflowAppend_pending (b : Byte) (s : State) : (overflowAppend b s).pending = s.pending := rfl
@[simp] theorem overflowAppend_cfg (b : Byte) (s : State) : (overflowAppend b s).cfg = s.cfg := rfl
@[simp] theorem overflowAppend_received (b : Byte) (s : State) : (overflowAppend b s).received = s.received := rfl
@[simp] theorem overflowAppend_inputs (b : Byte) (s : State) : (overflowAppend b s).inputs = s.inputs := rfl
@[simp] theorem overflowAppend_commitOld (b : Byte) (s : State) : (overflowAppend b s).commitOld = s.commitOld := rfl
@[simp] theorem overflowAppend_freeIdx (b : Byte) (s : State) : (overflowAppend b s).freeIdx = s.freeIdx := rfl

@[simp] theorem reject_snap (s : State) : (reject s).snap = s.snap := rfl
@[simp] theorem reject_pob (s : State) : (reject s).pob = s.pob := rfl
@[simp] theorem reject_iab (s : State) : (reject s).iab = s.iab := rfl
@[simp] theorem reject_mode (s : State) : (reject s).mode = s.mode := rfl
@[simp] theorem reject_cur (s : State) : (reject s).cur = s.cur := rfl
@[simp] theorem reject_rem (s : State) : (reject s).rem = s.rem := rfl
@[simp] theorem reject_rxcnt (s : State) : (reject s).rxcnt = s.rxcnt := rfl
@[simp] theorem reject_badcnt (s : State) : (reject s).badcnt = s.badcnt + 1 := rfl
@[simp] theorem reject_ovfcnt (s : State) : (reject s).ovfcnt = s.ovfcnt := rfl
@[simp] theorem reject_txq (s : State) : (reject s).txq = s.txq := rfl
@[simp] theorem reject_rxq (s : State) : (reject s).rxq = s.rxq := rfl
@[simp] theorem reject_pending (s : State) : (reject s).pending = s.pending := rfl
@[simp] theorem reject_cfg (s : State) : (reject s).cfg = s.cfg := rfl
@[simp] theorem reject_received (s : State) : (reject s).received = s.received := rfl
@[simp] theorem reject_inputs (s : State) : (reject s).inputs = s.inputs := rfl
@[simp] theorem reject_commitOld (s : State) : (reject s).commitOld = s.commitOld := rfl
@[simp] theorem reject_freeIdx (s : State) : (reject s).freeIdx = s.freeIdx := rfl

@[simp] theorem compact_snap (j : Nat) (s : State) : (compact j s).snap = s.snap := rfl
@[simp] theorem compact_pob (j : Nat) (s : State) : (compact j s).pob = s.pob := rfl
@[simp] theorem compact_iab (j : Nat) (s : State) : (compact j s).iab = s.iab.drop (j + 2) := rfl
@[simp] theorem compact_mode (j : Nat) (s : State) : (compact j s).mode = s.mode := rfl
@[simp] theorem compact_cur (j : Nat) (s : State) : (compact j s).cur = s.cur := rfl
@[simp] theorem compact_rem (j : Nat) (s : State) : (compact j s).rem = s.rem := rfl
@[simp] theorem compact_rxcnt (j : Nat) (s : State) : (compact j s).rxcnt = s.rxcnt := rfl
@[simp] theorem compact_badcnt (j : Nat) (s : State) : (compact j s).badcnt = s.badcnt := rfl
@[simp] theorem compact_ovfcnt (j : Nat) (s : State) : (compact j s).ovfcnt = s.ovfcnt := rfl
@[simp] theorem compact_txq (j : Nat) (s : State) : (compact j s).txq = s.txq := rfl
@[simp] theorem compact_rxq (j : Nat) (s : State) : (compact j s).rxq = s.rxq := rfl
@[simp] theorem compact_pending (j : Nat) (s : State) : (compact j s).pending = s.pending := rfl
@[simp] theorem compact_cfg (j : Nat) (s : State) : (compact j s).cfg = s.cfg := rfl
@[simp] theorem compact_received (j : Nat) (s : State) : (compact j s).received = s.received := rfl
@[simp] theorem compact_inputs (j : Nat) (s : State) : (compact j s).inputs = s.inputs := rfl
@[simp] theorem compact_commitOld (j : Nat) (s : State) : (compact j s).commitOld = s.commitOld := rfl
@[simp] theorem compact_freeIdx (j : Nat) (s : State) : (compact j s).freeIdx = s.freeIdx := rfl

@[simp] theorem resetState_snap (s : State) : (resetState s).snap = s.cfg.snapReset := rfl
@[simp] theorem resetState_pob (s : State) : (resetState s).pob = Config.pobAtReset s.freeIdx := rfl
@[simp] theorem resetState_iab (s : State) : (resetState s).iab = [] := rfl
@[simp] theorem resetState_mode (s : State) : (resetState s).mode = .idle := rfl
@[simp] theorem resetState_cur (s : State) : (resetState s).cur = 0 := rfl
@[simp] theorem resetState_rem (s : State) : (resetState s).rem = 0 := rfl
@[simp] theorem resetState_rxcnt (s : State) : (resetState s).rxcnt = 0 := rfl
@[simp] theorem resetState_badcnt (s : State) : (resetState s).badcnt = 0 := rfl
@[simp] theorem resetState_ovfcnt (s : State) : (resetState s).ovfcnt = 0 := rfl
@[simp] theorem resetState_txq (s : State) : (resetState s).txq = [] := rfl
@[simp] theorem resetState_rxq (s : State) : (resetState s).rxq = [] := rfl
@[simp] theorem resetState_pending (s : State) : (resetState s).pending = [] := rfl
@[simp] theorem resetState_cfg (s : State) : (resetState s).cfg = s.cfg := rfl
@[simp] theorem resetState_received (s : State) : (resetState s).received = s.received := rfl
@[simp] theorem resetState_inputs (s : State) : (resetState s).inputs = s.inputs := rfl
@[simp] theorem resetState_commitOld (s : State) : (resetState s).commitOld = s.commitOld := rfl
@[simp] theorem resetState_freeIdx (s : State) : (resetState s).freeIdx = s.freeIdx + 1 := rfl

/-! ### Operations with a case split -/

@[simp] theorem makePending_snap (e : Event) (s : State) : (makePending e s).snap = s.snap := by unfold makePending; split <;> rfl
@[simp] theorem makePending_pob (e : Event) (s : State) : (makePending e s).pob = s.pob := by unfold makePending; split <;> rfl
@[simp] theorem makePending_iab (e : Event) (s : State) : (makePending e s).iab = s.iab := by unfold makePending; split <;> rfl
@[simp] theorem makePending_mode (e : Event) (s : State) : (makePending e s).mode = s.mode := by unfold makePending; split <;> rfl
@[simp] theorem makePending_cur (e : Event) (s : State) : (makePending e s).cur = s.cur := by unfold makePending; split <;> rfl
@[simp] theorem makePending_rem (e : Event) (s : State) : (makePending e s).rem = s.rem := by unfold makePending; split <;> rfl
@[simp] theorem makePending_rxcnt (e : Event) (s : State) : (makePending e s).rxcnt = s.rxcnt := by unfold makePending; split <;> rfl
@[simp] theorem makePending_badcnt (e : Event) (s : State) : (makePending e s).badcnt = s.badcnt := by unfold makePending; split <;> rfl
@[simp] theorem makePending_ovfcnt (e : Event) (s : State) : (makePending e s).ovfcnt = s.ovfcnt := by unfold makePending; split <;> rfl
@[simp] theorem makePending_txq (e : Event) (s : State) : (makePending e s).txq = s.txq := by unfold makePending; split <;> rfl
@[simp] theorem makePending_rxq (e : Event) (s : State) : (makePending e s).rxq = s.rxq := by unfold makePending; split <;> rfl
@[simp] theorem makePending_pending (e : Event) (s : State) : (makePending e s).pending = if e ∈ s.pending then s.pending else s.pending ++ [e] := by unfold makePending; split <;> rfl
@[simp] theorem makePending_cfg (e : Event) (s : State) : (makePending e s).cfg = s.cfg := by unfold makePending; split <;> rfl
@[simp] theorem makePending_received (e : Event) (s : State) : (makePending e s).received = s.received := by unfold makePending; split <;> rfl
@[simp] theorem makePending_inputs (e : Event) (s : State) : (makePending e s).inputs = s.inputs := by unfold makePending; split <;> rfl
@[simp] theorem makePending_commitOld (e : Event) (s : State) : (makePending e s).commitOld = s.commitOld := by unfold makePending; split <;> rfl
@[simp] theorem makePending_freeIdx (e : Event) (s : State) : (makePending e s).freeIdx = s.freeIdx := by unfold makePending; split <;> rfl

@[simp] theorem copySnapshot_snap (s : State) : (copySnapshot s).snap = s.snap := by unfold copySnapshot; (repeat' split) <;> rfl
@[simp] theorem copySnapshot_iab (s : State) : (copySnapshot s).iab = s.iab := by unfold copySnapshot; (repeat' split) <;> rfl
@[simp] theorem copySnapshot_mode (s : State) : (copySnapshot s).mode = s.mode := by unfold copySnapshot; (repeat' split) <;> rfl
@[simp] theorem copySnapshot_cur (s : State) : (copySnapshot s).cur = s.cur := by unfold copySnapshot; (repeat' split) <;> rfl
@[simp] theorem copySnapshot_rem (s : State) : (copySnapshot s).rem = s.rem := by unfold copySnapshot; (repeat' split) <;> rfl
@[simp] theorem copySnapshot_rxcnt (s : State) : (copySnapshot s).rxcnt = s.rxcnt := by unfold copySnapshot; (repeat' split) <;> rfl
@[simp] theorem copySnapshot_badcnt (s : State) : (copySnapshot s).badcnt = s.badcnt := by unfold copySnapshot; (repeat' split) <;> rfl
@[simp] theorem copySnapshot_ovfcnt (s : State) : (copySnapshot s).ovfcnt = s.ovfcnt := by unfold copySnapshot; (repeat' split) <;> rfl
@[simp] theorem copySnapshot_txq (s : State) : (copySnapshot s).txq = s.txq := by unfold copySnapshot; (repeat' split) <;> rfl
@[simp] theorem copySnapshot_rxq (s : State) : (copySnapshot s).rxq = s.rxq := by unfold copySnapshot; (repeat' split) <;> rfl
@[simp] theorem copySnapshot_pending (s : State) : (copySnapshot s).pending = s.pending := by unfold copySnapshot; (repeat' split) <;> rfl
@[simp] theorem copySnapshot_cfg (s : State) : (copySnapshot s).cfg = s.cfg := by unfold copySnapshot; (repeat' split) <;> rfl
@[simp] theorem copySnapshot_received (s : State) : (copySnapshot s).received = s.received := by unfold copySnapshot; (repeat' split) <;> rfl
@[simp] theorem copySnapshot_inputs (s : State) : (copySnapshot s).inputs = s.inputs := by unfold copySnapshot; (repeat' split) <;> rfl
@[simp] theorem copySnapshot_commitOld (s : State) : (copySnapshot s).commitOld = s.commitOld := by unfold copySnapshot; (repeat' split) <;> rfl

@[simp] theorem flushTxq_snap (s : State) : (flushTxq s).snap = s.snap := by unfold flushTxq; split <;> rfl
@[simp] theorem flushTxq_pob (s : State) : (flushTxq s).pob = s.pob := by unfold flushTxq; split <;> rfl
@[simp] theorem flushTxq_iab (s : State) : (flushTxq s).iab = s.iab := by unfold flushTxq; split <;> rfl
@[simp] theorem flushTxq_mode (s : State) : (flushTxq s).mode = s.mode := by unfold flushTxq; split <;> rfl
@[simp] theorem flushTxq_cur (s : State) : (flushTxq s).cur = s.cur := by unfold flushTxq; split <;> rfl
@[simp] theorem flushTxq_rem (s : State) : (flushTxq s).rem = s.rem := by unfold flushTxq; split <;> rfl
@[simp] theorem flushTxq_rxcnt (s : State) : (flushTxq s).rxcnt = s.rxcnt := by unfold flushTxq; split <;> rfl
@[simp] theorem flushTxq_badcnt (s : State) : (flushTxq s).badcnt = s.badcnt := by unfold flushTxq; split <;> rfl
@[simp] theorem flushTxq_ovfcnt (s : State) : (flushTxq s).ovfcnt = s.ovfcnt := by unfold flushTxq; split <;> rfl
@[simp] theorem flushTxq_txq (s : State) : (flushTxq s).txq = if s.cfg.txqFlushOnStop then [] else s.txq := by unfold flushTxq; split <;> rfl
@[simp] theorem flushTxq_rxq (s : State) : (flushTxq s).rxq = s.rxq := by unfold flushTxq; split <;> rfl
@[simp] theorem flushTxq_pending (s : State) : (flushTxq s).pending = s.pending := by unfold flushTxq; split <;> rfl
@[simp] theorem flushTxq_cfg (s : State) : (flushTxq s).cfg = s.cfg := by unfold flushTxq; split <;> rfl
@[simp] theorem flushTxq_received (s : State) : (flushTxq s).received = s.received := by unfold flushTxq; split <;> rfl
@[simp] theorem flushTxq_inputs (s : State) : (flushTxq s).inputs = s.inputs := by unfold flushTxq; split <;> rfl
@[simp] theorem flushTxq_commitOld (s : State) : (flushTxq s).commitOld = s.commitOld := by unfold flushTxq; split <;> rfl
@[simp] theorem flushTxq_freeIdx (s : State) : (flushTxq s).freeIdx = s.freeIdx := by unfold flushTxq; split <;> rfl

@[simp] theorem appendByte_snap (b : Byte) (s : State) : (appendByte b s).snap = s.snap := by unfold appendByte; split <;> rfl
@[simp] theorem appendByte_pob (b : Byte) (s : State) : (appendByte b s).pob = s.pob := by unfold appendByte; split <;> rfl
@[simp] theorem appendByte_iab (b : Byte) (s : State) : (appendByte b s).iab = if s.n = iabCap then s.iab.drop 1 ++ [b] else s.iab ++ [b] := by unfold appendByte; split <;> rfl
@[simp] theorem appendByte_mode (b : Byte) (s : State) : (appendByte b s).mode = s.mode := by unfold appendByte; split <;> rfl
@[simp] theorem appendByte_cur (b : Byte) (s : State) : (appendByte b s).cur = s.cur := by unfold appendByte; split <;> rfl
@[simp] theorem appendByte_rem (b : Byte) (s : State) : (appendByte b s).rem = s.rem := by unfold appendByte; split <;> rfl
@[simp] theorem appendByte_rxcnt (b : Byte) (s : State) : (appendByte b s).rxcnt = s.rxcnt := by unfold appendByte; split <;> rfl
@[simp] theorem appendByte_badcnt (b : Byte) (s : State) : (appendByte b s).badcnt = s.badcnt := by unfold appendByte; split <;> rfl
@[simp] theorem appendByte_ovfcnt (b : Byte) (s : State) : (appendByte b s).ovfcnt = if s.n = iabCap then s.ovfcnt + 1 else s.ovfcnt := by unfold appendByte; split <;> rfl
@[simp] theorem appendByte_txq (b : Byte) (s : State) : (appendByte b s).txq = s.txq := by unfold appendByte; split <;> rfl
@[simp] theorem appendByte_rxq (b : Byte) (s : State) : (appendByte b s).rxq = s.rxq := by unfold appendByte; split <;> rfl
@[simp] theorem appendByte_pending (b : Byte) (s : State) : (appendByte b s).pending = s.pending := by unfold appendByte; split <;> rfl
@[simp] theorem appendByte_cfg (b : Byte) (s : State) : (appendByte b s).cfg = s.cfg := by unfold appendByte; split <;> rfl
@[simp] theorem appendByte_received (b : Byte) (s : State) : (appendByte b s).received = s.received := by unfold appendByte; split <;> rfl
@[simp] theorem appendByte_inputs (b : Byte) (s : State) : (appendByte b s).inputs = s.inputs := by unfold appendByte; split <;> rfl
@[simp] theorem appendByte_commitOld (b : Byte) (s : State) : (appendByte b s).commitOld = s.commitOld := by unfold appendByte; split <;> rfl
@[simp] theorem appendByte_freeIdx (b : Byte) (s : State) : (appendByte b s).freeIdx = s.freeIdx := by unfold appendByte; split <;> rfl

@[simp] theorem commit_snap (i j : Nat) (s : State) : (commit i j s).snap = (Record.ofBytes (payload i j s.iab)).getD s.snap := by unfold commit; split <;> simp_all
@[simp] theorem commit_pob (i j : Nat) (s : State) : (commit i j s).pob = s.pob := by unfold commit; split <;> simp_all
@[simp] theorem commit_iab (i j : Nat) (s : State) : (commit i j s).iab = s.iab := by unfold commit; split <;> simp_all
@[simp] theorem commit_mode (i j : Nat) (s : State) : (commit i j s).mode = s.mode := by unfold commit; split <;> simp_all
@[simp] theorem commit_cur (i j : Nat) (s : State) : (commit i j s).cur = s.cur := by unfold commit; split <;> simp_all
@[simp] theorem commit_rem (i j : Nat) (s : State) : (commit i j s).rem = s.rem := by unfold commit; split <;> simp_all
@[simp] theorem commit_rxcnt (i j : Nat) (s : State) : (commit i j s).rxcnt = s.rxcnt := by unfold commit; split <;> simp_all
@[simp] theorem commit_badcnt (i j : Nat) (s : State) : (commit i j s).badcnt = s.badcnt := by unfold commit; split <;> simp_all
@[simp] theorem commit_ovfcnt (i j : Nat) (s : State) : (commit i j s).ovfcnt = s.ovfcnt := by unfold commit; split <;> simp_all
@[simp] theorem commit_txq (i j : Nat) (s : State) : (commit i j s).txq = s.txq := by unfold commit; split <;> simp_all
@[simp] theorem commit_rxq (i j : Nat) (s : State) : (commit i j s).rxq = s.rxq := by unfold commit; split <;> simp_all
@[simp] theorem commit_pending (i j : Nat) (s : State) : (commit i j s).pending = s.pending := by unfold commit; split <;> simp_all
@[simp] theorem commit_cfg (i j : Nat) (s : State) : (commit i j s).cfg = s.cfg := by unfold commit; split <;> simp_all
@[simp] theorem commit_received (i j : Nat) (s : State) : (commit i j s).received = s.received := by unfold commit; split <;> simp_all
@[simp] theorem commit_inputs (i j : Nat) (s : State) : (commit i j s).inputs = s.inputs := by unfold commit; split <;> simp_all
@[simp] theorem commit_commitOld (i j : Nat) (s : State) : (commit i j s).commitOld = s.commitOld := by unfold commit; split <;> simp_all
@[simp] theorem commit_freeIdx (i j : Nat) (s : State) : (commit i j s).freeIdx = s.freeIdx := by unfold commit; split <;> simp_all

@[simp] theorem handleSpan_snap (i j : Nat) (s : State) : (handleSpan i j s).snap = if payloadLength i j = snapLen then (Record.ofBytes (payload i j s.iab)).getD s.snap else s.snap := by unfold handleSpan; split <;> simp
@[simp] theorem handleSpan_pob (i j : Nat) (s : State) : (handleSpan i j s).pob = s.pob := by unfold handleSpan; split <;> simp
@[simp] theorem handleSpan_iab (i j : Nat) (s : State) : (handleSpan i j s).iab = s.iab.drop (j + 2) := by unfold handleSpan; split <;> simp
@[simp] theorem handleSpan_mode (i j : Nat) (s : State) : (handleSpan i j s).mode = s.mode := by unfold handleSpan; split <;> simp
@[simp] theorem handleSpan_cur (i j : Nat) (s : State) : (handleSpan i j s).cur = s.cur := by unfold handleSpan; split <;> simp
@[simp] theorem handleSpan_rem (i j : Nat) (s : State) : (handleSpan i j s).rem = s.rem := by unfold handleSpan; split <;> simp
@[simp] theorem handleSpan_rxcnt (i j : Nat) (s : State) : (handleSpan i j s).rxcnt = s.rxcnt := by unfold handleSpan; split <;> simp
@[simp] theorem handleSpan_badcnt (i j : Nat) (s : State) : (handleSpan i j s).badcnt = if payloadLength i j = snapLen then s.badcnt else s.badcnt + 1 := by unfold handleSpan; split <;> simp
@[simp] theorem handleSpan_ovfcnt (i j : Nat) (s : State) : (handleSpan i j s).ovfcnt = s.ovfcnt := by unfold handleSpan; split <;> simp
@[simp] theorem handleSpan_txq (i j : Nat) (s : State) : (handleSpan i j s).txq = s.txq := by unfold handleSpan; split <;> simp
@[simp] theorem handleSpan_rxq (i j : Nat) (s : State) : (handleSpan i j s).rxq = s.rxq := by unfold handleSpan; split <;> simp
@[simp] theorem handleSpan_pending (i j : Nat) (s : State) : (handleSpan i j s).pending = s.pending := by unfold handleSpan; split <;> simp
@[simp] theorem handleSpan_cfg (i j : Nat) (s : State) : (handleSpan i j s).cfg = s.cfg := by unfold handleSpan; split <;> simp
@[simp] theorem handleSpan_received (i j : Nat) (s : State) : (handleSpan i j s).received = s.received := by unfold handleSpan; split <;> simp
@[simp] theorem handleSpan_inputs (i j : Nat) (s : State) : (handleSpan i j s).inputs = s.inputs := by unfold handleSpan; split <;> simp
@[simp] theorem handleSpan_commitOld (i j : Nat) (s : State) : (handleSpan i j s).commitOld = s.commitOld := by unfold handleSpan; split <;> simp
@[simp] theorem handleSpan_freeIdx (i j : Nat) (s : State) : (handleSpan i j s).freeIdx = s.freeIdx := by unfold handleSpan; split <;> simp

@[simp] theorem scan_pob (s : State) : (scan s).pob = s.pob := by unfold scan; (repeat' split) <;> simp
@[simp] theorem scan_mode (s : State) : (scan s).mode = s.mode := by unfold scan; (repeat' split) <;> simp
@[simp] theorem scan_cur (s : State) : (scan s).cur = s.cur := by unfold scan; (repeat' split) <;> simp
@[simp] theorem scan_rem (s : State) : (scan s).rem = s.rem := by unfold scan; (repeat' split) <;> simp
@[simp] theorem scan_rxcnt (s : State) : (scan s).rxcnt = s.rxcnt := by unfold scan; (repeat' split) <;> simp
@[simp] theorem scan_ovfcnt (s : State) : (scan s).ovfcnt = s.ovfcnt := by unfold scan; (repeat' split) <;> simp
@[simp] theorem scan_txq (s : State) : (scan s).txq = s.txq := by unfold scan; (repeat' split) <;> simp
@[simp] theorem scan_rxq (s : State) : (scan s).rxq = s.rxq := by unfold scan; (repeat' split) <;> simp
@[simp] theorem scan_pending (s : State) : (scan s).pending = s.pending := by unfold scan; (repeat' split) <;> simp
@[simp] theorem scan_cfg (s : State) : (scan s).cfg = s.cfg := by unfold scan; (repeat' split) <;> simp
@[simp] theorem scan_received (s : State) : (scan s).received = s.received := by unfold scan; (repeat' split) <;> simp
@[simp] theorem scan_inputs (s : State) : (scan s).inputs = s.inputs := by unfold scan; (repeat' split) <;> simp
@[simp] theorem scan_commitOld (s : State) : (scan s).commitOld = s.commitOld := by unfold scan; (repeat' split) <;> simp
@[simp] theorem scan_freeIdx (s : State) : (scan s).freeIdx = s.freeIdx := by unfold scan; (repeat' split) <;> simp

@[simp] theorem parseByte_pob (b : Byte) (s : State) : (parseByte b s).pob = s.pob := by simp [parseByte]
@[simp] theorem parseByte_mode (b : Byte) (s : State) : (parseByte b s).mode = s.mode := by simp [parseByte]
@[simp] theorem parseByte_cur (b : Byte) (s : State) : (parseByte b s).cur = s.cur := by simp [parseByte]
@[simp] theorem parseByte_rem (b : Byte) (s : State) : (parseByte b s).rem = s.rem := by simp [parseByte]
@[simp] theorem parseByte_rxcnt (b : Byte) (s : State) : (parseByte b s).rxcnt = s.rxcnt := by simp [parseByte]
@[simp] theorem parseByte_ovfcnt (b : Byte) (s : State) : (parseByte b s).ovfcnt = if s.n = iabCap then s.ovfcnt + 1 else s.ovfcnt := by simp [parseByte]
@[simp] theorem parseByte_txq (b : Byte) (s : State) : (parseByte b s).txq = s.txq := by simp [parseByte]
@[simp] theorem parseByte_rxq (b : Byte) (s : State) : (parseByte b s).rxq = s.rxq := by simp [parseByte]
@[simp] theorem parseByte_pending (b : Byte) (s : State) : (parseByte b s).pending = s.pending := by simp [parseByte]
@[simp] theorem parseByte_cfg (b : Byte) (s : State) : (parseByte b s).cfg = s.cfg := by simp [parseByte]
@[simp] theorem parseByte_received (b : Byte) (s : State) : (parseByte b s).received = s.received := by simp [parseByte]
@[simp] theorem parseByte_inputs (b : Byte) (s : State) : (parseByte b s).inputs = s.inputs := by simp [parseByte]
@[simp] theorem parseByte_commitOld (b : Byte) (s : State) : (parseByte b s).commitOld = s.commitOld := by simp [parseByte]
@[simp] theorem parseByte_freeIdx (b : Byte) (s : State) : (parseByte b s).freeIdx = s.freeIdx := by simp [parseByte]

/-! ### Recursive operations -/

@[simp] theorem drainLoop_snap (bs : List Byte) (s : State) : (drainLoop bs s).snap = s.snap := by
  induction bs generalizing s with
  | nil => rfl
  | cons b bs ih => rw [drainLoop, ih]
@[simp] theorem drainLoop_pob (bs : List Byte) (s : State) : (drainLoop bs s).pob = s.pob := by
  induction bs generalizing s with
  | nil => rfl
  | cons b bs ih => rw [drainLoop, ih]
@[simp] theorem drainLoop_iab (bs : List Byte) (s : State) : (drainLoop bs s).iab = s.iab := by
  induction bs generalizing s with
  | nil => rfl
  | cons b bs ih => rw [drainLoop, ih]
@[simp] theorem drainLoop_mode (bs : List Byte) (s : State) : (drainLoop bs s).mode = s.mode := by
  induction bs generalizing s with
  | nil => rfl
  | cons b bs ih => rw [drainLoop, ih]
@[simp] theorem drainLoop_cur (bs : List Byte) (s : State) : (drainLoop bs s).cur = s.cur := by
  induction bs generalizing s with
  | nil => rfl
  | cons b bs ih => rw [drainLoop, ih]
@[simp] theorem drainLoop_rem (bs : List Byte) (s : State) : (drainLoop bs s).rem = s.rem := by
  induction bs generalizing s with
  | nil => rfl
  | cons b bs ih => rw [drainLoop, ih]
@[simp] theorem drainLoop_badcnt (bs : List Byte) (s : State) : (drainLoop bs s).badcnt = s.badcnt := by
  induction bs generalizing s with
  | nil => rfl
  | cons b bs ih => rw [drainLoop, ih]
@[simp] theorem drainLoop_ovfcnt (bs : List Byte) (s : State) : (drainLoop bs s).ovfcnt = s.ovfcnt := by
  induction bs generalizing s with
  | nil => rfl
  | cons b bs ih => rw [drainLoop, ih]
@[simp] theorem drainLoop_txq (bs : List Byte) (s : State) : (drainLoop bs s).txq = s.txq := by
  induction bs generalizing s with
  | nil => rfl
  | cons b bs ih => rw [drainLoop, ih]
@[simp] theorem drainLoop_pending (bs : List Byte) (s : State) : (drainLoop bs s).pending = s.pending := by
  induction bs generalizing s with
  | nil => rfl
  | cons b bs ih => rw [drainLoop, ih]
@[simp] theorem drainLoop_cfg (bs : List Byte) (s : State) : (drainLoop bs s).cfg = s.cfg := by
  induction bs generalizing s with
  | nil => rfl
  | cons b bs ih => rw [drainLoop, ih]
@[simp] theorem drainLoop_received (bs : List Byte) (s : State) : (drainLoop bs s).received = s.received := by
  induction bs generalizing s with
  | nil => rfl
  | cons b bs ih => rw [drainLoop, ih]
@[simp] theorem drainLoop_inputs (bs : List Byte) (s : State) : (drainLoop bs s).inputs = s.inputs := by
  induction bs generalizing s with
  | nil => rfl
  | cons b bs ih => rw [drainLoop, ih]
@[simp] theorem drainLoop_commitOld (bs : List Byte) (s : State) : (drainLoop bs s).commitOld = s.commitOld := by
  induction bs generalizing s with
  | nil => rfl
  | cons b bs ih => rw [drainLoop, ih]
@[simp] theorem drainLoop_freeIdx (bs : List Byte) (s : State) : (drainLoop bs s).freeIdx = s.freeIdx := by
  induction bs generalizing s with
  | nil => rfl
  | cons b bs ih => rw [drainLoop, ih]

@[simp] theorem drainLoop_rxq (bs : List Byte) (s : State) : (drainLoop bs s).rxq = [] := by
  induction bs generalizing s with
  | nil => rfl
  | cons b bs ih => rw [drainLoop, ih]

@[simp] theorem drainLoop_rxcnt (bs : List Byte) (s : State) :
    (drainLoop bs s).rxcnt = s.rxcnt + BitVec.ofNat 32 bs.length := by
  induction bs generalizing s with
  | nil => simp [drainLoop]
  | cons b bs ih =>
    rw [drainLoop, ih, List.length_cons, BitVec.ofNat_add]
    simp only [bump]
    rw [BitVec.add_assoc, BitVec.add_comm (BitVec.ofNat 32 bs.length)]
    rfl

@[simp] theorem drainRxq_snap (s : State) : (drainRxq s).snap = s.snap := by simp [drainRxq]
@[simp] theorem drainRxq_pob (s : State) : (drainRxq s).pob = s.pob := by simp [drainRxq]
@[simp] theorem drainRxq_iab (s : State) : (drainRxq s).iab = s.iab := by simp [drainRxq]
@[simp] theorem drainRxq_mode (s : State) : (drainRxq s).mode = s.mode := by simp [drainRxq]
@[simp] theorem drainRxq_cur (s : State) : (drainRxq s).cur = s.cur := by simp [drainRxq]
@[simp] theorem drainRxq_rem (s : State) : (drainRxq s).rem = s.rem := by simp [drainRxq]
@[simp] theorem drainRxq_rxcnt (s : State) : (drainRxq s).rxcnt = s.rxcnt + BitVec.ofNat 32 s.rxq.length := by simp [drainRxq]
@[simp] theorem drainRxq_badcnt (s : State) : (drainRxq s).badcnt = s.badcnt := by simp [drainRxq]
@[simp] theorem drainRxq_ovfcnt (s : State) : (drainRxq s).ovfcnt = s.ovfcnt := by simp [drainRxq]
@[simp] theorem drainRxq_txq (s : State) : (drainRxq s).txq = s.txq := by simp [drainRxq]
@[simp] theorem drainRxq_rxq (s : State) : (drainRxq s).rxq = [] := by simp [drainRxq]
@[simp] theorem drainRxq_pending (s : State) : (drainRxq s).pending = s.pending := by simp [drainRxq]
@[simp] theorem drainRxq_cfg (s : State) : (drainRxq s).cfg = s.cfg := by simp [drainRxq]
@[simp] theorem drainRxq_received (s : State) : (drainRxq s).received = s.received := by simp [drainRxq]
@[simp] theorem drainRxq_inputs (s : State) : (drainRxq s).inputs = s.inputs := by simp [drainRxq]
@[simp] theorem drainRxq_commitOld (s : State) : (drainRxq s).commitOld = s.commitOld := by simp [drainRxq]
@[simp] theorem drainRxq_freeIdx (s : State) : (drainRxq s).freeIdx = s.freeIdx := by simp [drainRxq]

@[simp] theorem masterWrite_snap (b : Byte) (s : State) : (masterWrite b s).snap = s.snap := by simp [masterWrite]
@[simp] theorem masterWrite_pob (b : Byte) (s : State) : (masterWrite b s).pob = s.pob := by simp [masterWrite]
@[simp] theorem masterWrite_iab (b : Byte) (s : State) : (masterWrite b s).iab = s.iab := by simp [masterWrite]
@[simp] theorem masterWrite_mode (b : Byte) (s : State) : (masterWrite b s).mode = s.mode := by simp [masterWrite]
@[simp] theorem masterWrite_cur (b : Byte) (s : State) : (masterWrite b s).cur = s.cur := by simp [masterWrite]
@[simp] theorem masterWrite_rem (b : Byte) (s : State) : (masterWrite b s).rem = s.rem := by simp [masterWrite]
@[simp] theorem masterWrite_rxcnt (b : Byte) (s : State) : (masterWrite b s).rxcnt = s.rxcnt := by simp [masterWrite]
@[simp] theorem masterWrite_badcnt (b : Byte) (s : State) : (masterWrite b s).badcnt = s.badcnt := by simp [masterWrite]
@[simp] theorem masterWrite_ovfcnt (b : Byte) (s : State) : (masterWrite b s).ovfcnt = s.ovfcnt := by simp [masterWrite]
@[simp] theorem masterWrite_txq (b : Byte) (s : State) : (masterWrite b s).txq = s.txq := by simp [masterWrite]
@[simp] theorem masterWrite_rxq (b : Byte) (s : State) : (masterWrite b s).rxq = s.rxq ++ [b] := by simp [masterWrite]
@[simp] theorem masterWrite_pending (b : Byte) (s : State) : (masterWrite b s).pending = if .br ∈ s.pending then s.pending else s.pending ++ [.br] := by simp [masterWrite]
@[simp] theorem masterWrite_cfg (b : Byte) (s : State) : (masterWrite b s).cfg = s.cfg := by simp [masterWrite]
@[simp] theorem masterWrite_received (b : Byte) (s : State) : (masterWrite b s).received = s.received := by simp [masterWrite]
@[simp] theorem masterWrite_inputs (b : Byte) (s : State) : (masterWrite b s).inputs = s.inputs := by simp [masterWrite]
@[simp] theorem masterWrite_commitOld (b : Byte) (s : State) : (masterWrite b s).commitOld = s.commitOld := by simp [masterWrite]
@[simp] theorem masterWrite_freeIdx (b : Byte) (s : State) : (masterWrite b s).freeIdx = s.freeIdx := by simp [masterWrite]

@[simp] theorem parseBytes_pob (bs : List Byte) (s : State) : (parseBytes bs s).pob = s.pob := by
  induction bs generalizing s with
  | nil => rfl
  | cons b bs ih => rw [parseBytes, ih, parseByte_pob]
@[simp] theorem parseBytes_mode (bs : List Byte) (s : State) : (parseBytes bs s).mode = s.mode := by
  induction bs generalizing s with
  | nil => rfl
  | cons b bs ih => rw [parseBytes, ih, parseByte_mode]
@[simp] theorem parseBytes_cur (bs : List Byte) (s : State) : (parseBytes bs s).cur = s.cur := by
  induction bs generalizing s with
  | nil => rfl
  | cons b bs ih => rw [parseBytes, ih, parseByte_cur]
@[simp] theorem parseBytes_rem (bs : List Byte) (s : State) : (parseBytes bs s).rem = s.rem := by
  induction bs generalizing s with
  | nil => rfl
  | cons b bs ih => rw [parseBytes, ih, parseByte_rem]
@[simp] theorem parseBytes_rxcnt (bs : List Byte) (s : State) : (parseBytes bs s).rxcnt = s.rxcnt := by
  induction bs generalizing s with
  | nil => rfl
  | cons b bs ih => rw [parseBytes, ih, parseByte_rxcnt]
@[simp] theorem parseBytes_txq (bs : List Byte) (s : State) : (parseBytes bs s).txq = s.txq := by
  induction bs generalizing s with
  | nil => rfl
  | cons b bs ih => rw [parseBytes, ih, parseByte_txq]
@[simp] theorem parseBytes_rxq (bs : List Byte) (s : State) : (parseBytes bs s).rxq = s.rxq := by
  induction bs generalizing s with
  | nil => rfl
  | cons b bs ih => rw [parseBytes, ih, parseByte_rxq]
@[simp] theorem parseBytes_pending (bs : List Byte) (s : State) : (parseBytes bs s).pending = s.pending := by
  induction bs generalizing s with
  | nil => rfl
  | cons b bs ih => rw [parseBytes, ih, parseByte_pending]
@[simp] theorem parseBytes_cfg (bs : List Byte) (s : State) : (parseBytes bs s).cfg = s.cfg := by
  induction bs generalizing s with
  | nil => rfl
  | cons b bs ih => rw [parseBytes, ih, parseByte_cfg]
@[simp] theorem parseBytes_received (bs : List Byte) (s : State) : (parseBytes bs s).received = s.received := by
  induction bs generalizing s with
  | nil => rfl
  | cons b bs ih => rw [parseBytes, ih, parseByte_received]
@[simp] theorem parseBytes_inputs (bs : List Byte) (s : State) : (parseBytes bs s).inputs = s.inputs := by
  induction bs generalizing s with
  | nil => rfl
  | cons b bs ih => rw [parseBytes, ih, parseByte_inputs]
@[simp] theorem parseBytes_commitOld (bs : List Byte) (s : State) : (parseBytes bs s).commitOld = s.commitOld := by
  induction bs generalizing s with
  | nil => rfl
  | cons b bs ih => rw [parseBytes, ih, parseByte_commitOld]
@[simp] theorem parseBytes_freeIdx (bs : List Byte) (s : State) : (parseBytes bs s).freeIdx = s.freeIdx := by
  induction bs generalizing s with
  | nil => rfl
  | cons b bs ih => rw [parseBytes, ih, parseByte_freeIdx]

end Sys2Proof.Machine
end

