-- ==== Sys2Proof/Laws/Exec.lean ====
section
/-! SUPPORT. One lemma per instruction: what `exec` answers, in terms of the shared operations; for the three that can have
no step, what a next state tells. -/

namespace Sys2Proof.Machine

/-- A written `f` within the depth of the queue is taken as it is. -/
theorem freeCapacity_port_le {n : Nat} {s : State} (h : n ≤ s.cfg.txqDepth) : freeCapacity (.port n) s = n := if_pos h

/-- A written `f` above the depth of the queue is treated as 7. -/
theorem freeCapacity_port_gt {n : Nat} {s : State} (h : s.cfg.txqDepth < n) : freeCapacity (.port n) s = 7 :=
  if_neg (Nat.not_le.mpr h)

/-- The free capacity depends on the parameters and on `TXQ` only. -/
theorem freeCapacity_congr (f : FreeOperand) {s t : State} (hc : t.cfg = s.cfg) (ht : t.txq = s.txq) :
    freeCapacity f t = freeCapacity f s := by
  cases f <;> simp only [freeCapacity, txFree, hc, ht]

theorem exec_cc (b : Byte) (s : State) : exec (.cc b) s = .next (parseByte b s) := rfl

theorem exec_rr (f : FreeOperand) (s : State) :
    exec (.rr f) s = .next (push (freeCapacity f s) (startServing (copySnapshot (takeEvent .rr s)))) := rfl

theorem exec_td (f : FreeOperand) (s : State) : exec (.td f) s = .next (push (freeCapacity f s) (takeEvent .td s)) := rfl

theorem exec_br (s : State) : exec .br s = .next (drainRxq (takeEvent .br s)) := rfl

theorem exec_st (s : State) : exec .st s = .next (flushTxq (stopServing (takeEvent .st s))) := rfl

theorem exec_frame (p : Record) (s : State) : exec (.frame p) s = .next (parseBytes (frameBytes p) s) := rfl

theorem exec_reset (s : State) : exec .reset s = .next (resetState s) := rfl

theorem exec_get_next {s t : State} (h : exec .get s = .next t) :
    s.rxq.length < s.cfg.rxqDepth ∧ t = drainRxq (takeEvent .br (masterWrite cmdGet s)) := by
  by_cases hr : s.rxq.length < s.cfg.rxqDepth
  · simp only [exec, execGet, rxHasRoom, hr, decide_true, if_true, Host.Outcome.next.injEq] at h
    exact ⟨hr, h.symm⟩
  · simp [exec, execGet, rxHasRoom, hr] at h

theorem exec_wr_next {b : Byte} {s t : State} (h : exec (.wr b) s = .next t) :
    s.rxq.length < s.cfg.rxqDepth ∧ t = masterWrite b s := by
  by_cases hr : s.rxq.length < s.cfg.rxqDepth
  · simp only [exec, execWr, rxHasRoom, hr, decide_true, if_true, Host.Outcome.next.injEq] at h
    exact ⟨hr, h.symm⟩
  · simp [exec, execWr, rxHasRoom, hr] at h

theorem exec_pop_next {s t : State} (h : exec .pop s = .next t) :
    ∃ b rest, s.txq = b :: rest ∧ t = { s with txq := rest, received := s.received ++ [b] } := by
  simp only [exec, execPop] at h
  split at h
  · cases h
  · rename_i b rest hb
    cases h
    exact ⟨b, rest, hb, rfl⟩

end Sys2Proof.Machine
end

