-- ==== Sys2Proof/Laws/PerInstr.lean ====
section
/-! SUPPORT. Statements about every instruction as syntax, one lemma per constructor. -/

namespace Sys2Proof.Laws.EncodedWidth

/-- How many bits stand on the ports for an operation: the column "width_bits" of spec/opcode_table.json, and five more on
`tx_free` where an event is written with `f`. -/
def Statement (i : Instr) : Prop :=
  match i with
  | .cc _ | .get | .wr _ => (encode i).width = 8
  | .rr f | .td f => (encode i).width = if f = .queue then 2 else 7
  | .br | .st => (encode i).width = 2
  | .frame _ => (encode i).width = 88
  | .pop => (encode i).width = 0
  | .reset => (encode i).width = 1

theorem cc (b : Byte) : Statement (.cc b) := rfl
theorem rr (f : FreeOperand) : Statement (.rr f) := by cases f <;> rfl
theorem td (f : FreeOperand) : Statement (.td f) := by cases f <;> rfl
theorem br : Statement .br := rfl
theorem st : Statement .st := rfl
theorem frame (p : Record) : Statement (.frame p) := rfl
theorem get : Statement .get := rfl
theorem pop : Statement .pop := rfl
theorem wr (b : Byte) : Statement (.wr b) := rfl
theorem reset : Statement .reset := rfl

end Sys2Proof.Laws.EncodedWidth
end

