-- ==== Sys2Proof/Laws/Scan.lean ====
section
/-! SUPPORT. What the scan for a pair of bytes finds, and the three ways the parser's handling of one byte can go. -/

namespace Sys2Proof.Machine

theorem not_pairAt_nil (a b : Byte) (i : Nat) : ¬ PairAt a b [] i := by simp [PairAt]

theorem not_pairAt_singleton (a b x : Byte) (i : Nat) : ¬ PairAt a b [x] i := by
  rintro ⟨-, h⟩
  simp at h

theorem pairAt_zero (a b x y : Byte) (l : List Byte) : PairAt a b (x :: y :: l) 0 ↔ x = a ∧ y = b := by simp [PairAt]

theorem pairAt_succ (a b x : Byte) (l : List Byte) (i : Nat) : PairAt a b (x :: l) (i + 1) ↔ PairAt a b l i := by
  simp [PairAt]

/-- A pair stands inside the list. -/
theorem PairAt.lt {a b : Byte} {l : List Byte} {i : Nat} (h : PairAt a b l i) : i + 1 < l.length :=
  (List.getElem?_eq_some_iff.mp h.2).1

/-- Dropping a prefix shifts the places of a pair. -/
theorem pairAt_drop (a b : Byte) (l : List Byte) (k i : Nat) : PairAt a b (l.drop k) i ↔ PairAt a b l (k + i) := by
  simp [PairAt, Nat.add_assoc]

theorem findPair_none (a b : Byte) (l : List Byte) : findPair a b l = none ↔ ∀ i, ¬ PairAt a b l i := by
  induction l with
  | nil => simp [findPair, not_pairAt_nil]
  | cons x l ih =>
    cases l with
    | nil => simp [findPair, not_pairAt_singleton]
    | cons y l =>
      rw [findPair]
      split
      · rename_i h
        simp only [reduceCtorEq, false_iff, not_forall, not_not]
        exact ⟨0, (pairAt_zero ..).mpr h⟩
      · rename_i h
        rw [Option.map_eq_none_iff, ih]
        constructor
        · intro hn i
          cases i with
          | zero => rwa [pairAt_zero]
          | succ i => rw [pairAt_succ]; exact hn i
        · intro hn i
          have := hn (i + 1)
          rwa [pairAt_succ] at this

/-- The scan answers the least index of the pair, and no other. -/
theorem findPair_some (a b : Byte) (l : List Byte) (i : Nat) :
    findPair a b l = some i ↔ PairAt a b l i ∧ ∀ k < i, ¬ PairAt a b l k := by
  induction l generalizing i with
  | nil => simp [findPair, not_pairAt_nil]
  | cons x l ih =>
    cases l with
    | nil => simp [findPair, not_pairAt_singleton]
    | cons y l =>
      rw [findPair]
      split
      · rename_i h
        constructor
        · rintro ⟨⟩
          exact ⟨(pairAt_zero ..).mpr h, by simp⟩
        · rintro ⟨-, hmin⟩
          cases i with
          | zero => rfl
          | succ i => exact absurd ((pairAt_zero ..).mpr h) (hmin 0 (Nat.succ_pos i))
      · rename_i h
        cases i with
        | zero => simp [pairAt_zero, h]
        | succ i =>
          rw [pairAt_succ, show ((findPair a b (y :: l)).map (· + 1) = some (i + 1) ↔ findPair a b (y :: l) = some i) by
            simp [Option.map_eq_some_iff], ih]
          refine and_congr_right fun _ => ⟨fun hmin k hk => ?_, fun hmin k hk => ?_⟩
          · cases k with
            | zero => rwa [pairAt_zero]
            | succ k => rw [pairAt_succ]; exact hmin k (by omega)
          · have := hmin (k + 1) (by omega)
            rwa [pairAt_succ] at this

theorem noStart_iff (l : List Byte) : NoStart l ↔ findStart l = none := (findPair_none start0 start1 l).symm

theorem noEnd_iff (l : List Byte) : NoEnd l ↔ findPair end0 end1 l = none := (findPair_none end0 end1 l).symm

theorem noSpan_of_noStart {l : List Byte} (h : NoStart l) : NoSpan l := fun i _ hi _ => absurd hi (h i)

theorem noSpan_of_noEnd {l : List Byte} (h : NoEnd l) : NoSpan l := fun _ j _ hj => absurd hj (h j)

/-- The buffer after the append step is the new byte behind the old ones, less the oldest if it was full. -/
theorem appendByte_iab_appended (b : Byte) (s : State) : (appendByte b s).iab = appended b s := by
  simp [appended]

/-- Everything the handling of one byte can do: no complete span, or the first one handled. -/
theorem parseByte_cases (b : Byte) (s : State) :
    ((∀ i, findStart (appended b s) = some i → findEnd i (appended b s) = none) ∧ parseByte b s = appendByte b s) ∨
    ∃ i j, findStart (appended b s) = some i ∧ findEnd i (appended b s) = some j ∧
      parseByte b s = handleSpan i j (appendByte b s) := by
  have hl : (appendByte b s).iab = appended b s := appendByte_iab_appended b s
  rw [parseByte, scan, hl]
  cases hi : findStart (appended b s) with
  | none => exact .inl ⟨by simp, rfl⟩
  | some i =>
    dsimp only
    cases hj : findEnd i (appended b s) with
    | none => exact .inl ⟨by rintro _ ⟨⟩; exact hj, rfl⟩
    | some j => exact .inr ⟨i, j, rfl, hj, rfl⟩

end Sys2Proof.Machine
end

