-- ==== Sys2Proof/Laws/Step.lean ====
section
/-! SUPPORT. What one step can do, and how sequences of operations compose. -/

namespace Sys2Proof.Machine

/-- What stays the same while the next operation is fetched: all of the block and of its queues. -/
structure SameBlock (s t : State) : Prop where
  snap : t.snap = s.snap
  pob : t.pob = s.pob
  iab : t.iab = s.iab
  mode : t.mode = s.mode
  cur : t.cur = s.cur
  rem : t.rem = s.rem
  rxcnt : t.rxcnt = s.rxcnt
  badcnt : t.badcnt = s.badcnt
  ovfcnt : t.ovfcnt = s.ovfcnt
  txq : t.txq = s.txq
  rxq : t.rxq = s.rxq
  pending : t.pending = s.pending
  cfg : t.cfg = s.cfg
  received : t.received = s.received

theorem fetch_run_sameBlock {s t : State} {w : PortWord} (h : fetch s = .run w t) : SameBlock s t := by
  unfold fetch splitTogether at h
  repeat' split at h
  all_goals first | (cases h; constructor <;> rfl) | cases h

theorem fetch_quiet_sameBlock {s t : State} (h : fetch s = .quiet t) : SameBlock s t := by
  unfold fetch splitTogether at h
  repeat' split at h
  all_goals first | (cases h; constructor <;> rfl) | cases h

theorem execSeq_nil (s : State) : execSeq [] s = .next s := rfl

theorem execSeq_cons_next {i : Instr} {is : List Instr} {s t : State} (h : exec i s = .next t) :
    execSeq (i :: is) s = execSeq is t := by
  rw [execSeq, h]

/-- Everything a step that answers a next state can do: a sequence of operations, none of them for some items, on the same
block. -/
theorem step_next {s t : State} (h : step s = .next t) : ∃ is s', SameBlock s s' ∧ execSeq is s' = .next t := by
  unfold step at h
  split at h
  · rename_i s' hs
    exact ⟨[], s', fetch_quiet_sameBlock hs, h⟩
  · rename_i w s' hw
    split at h
    · rename_i i hi
      exact ⟨[i], s', fetch_run_sameBlock hw, by rw [execSeq_cons_next h]; rfl⟩
    · exact ⟨operationsOf w, s', fetch_run_sameBlock hw, h⟩

/-- A sequence that answers a next state has run its first operation and then the rest. -/
theorem execSeq_cons {i : Instr} {is : List Instr} {s u : State} (h : execSeq (i :: is) s = .next u) :
    ∃ t, exec i s = .next t ∧ execSeq is t = .next u := by
  rw [execSeq] at h
  split at h
  · rename_i t ht
    exact ⟨t, ht, h⟩
  · cases h
  · cases h

theorem execSeq_append {is js : List Instr} {s t : State} (h : execSeq is s = .next t) :
    execSeq (is ++ js) s = execSeq js t := by
  induction is generalizing s with
  | nil => cases h; rfl
  | cons i is ih =>
    obtain ⟨u, hu, hr⟩ := execSeq_cons h
    rw [List.cons_append, execSeq_cons_next hu, ih hr]

/-- Control-channel bytes one after the other never stop. -/
theorem execSeq_cc (bs : List Byte) (s : State) : execSeq (bs.map .cc) s = .next (parseBytes bs s) := by
  induction bs generalizing s with
  | nil => rfl
  | cons b bs ih => rw [List.map_cons, execSeq_cons_next (t := parseByte b s) rfl, ih]; rfl

end Sys2Proof.Machine
end

