-- ==== Sys2Proof/Tests/Slice0.lean ====
section
/-! SUPPORT. Tests. Expected results are those of the spec's tables (30_encoding.md) and vectors (95_test_vectors.md, V<n>);
the witnesses show that the hypotheses of each statement can be met together. -/

namespace Sys2Proof.Tests
open Sys2Proof.Machine

/-! ### A small state -/

/-- `E0 .. E6`, as 95_test_vectors.md writes `SNAP_RESET`. -/
def recE : Record := ⟨0xE0, 0xE1, 0xE2, 0xE3, 0xE4, 0xE5, 0xE6⟩
/-- `01 .. 07` -/
def rec0 : Record := ⟨0x01, 0x02, 0x03, 0x04, 0x05, 0x06, 0x07⟩
/-- `11 .. 17` -/
def rec1 : Record := ⟨0x11, 0x12, 0x13, 0x14, 0x15, 0x16, 0x17⟩
/-- A payload with the adjacent pair `0D 0A` at offsets 5 and 6 (V13). -/
def recCut : Record := ⟨0x01, 0x02, 0x03, 0x04, 0x05, 0x0D, 0x0A⟩

/-- Idle, `SNAP = 01 .. 07`, queues empty, counters 0: where the responder vectors start. -/
def idle : State where
  snap := rec0
  pob := recE
  iab := []
  mode := .idle
  cur := 0
  rem := 0
  rxcnt := 0
  badcnt := 0
  ovfcnt := 0
  txq := []
  rxq := []
  pending := []
  cfg := { txqDepth := 16, rxqDepth := 16, txqFlushOnStop := true, snapWriteAtomic := true, snapReset := recE }
  received := []
  inputs := []
  commitOld := none
  freeIdx := 1

/-- Serving, three bytes pushed. -/
def serving : State := { idle with pob := rec0, mode := .serving, cur := 3, rem := 4, txq := [1, 2, 3] }

/-- Sixteen loose bytes `00 .. 0F`. -/
def loose16 : List Byte := [0, 1, 2, 3, 4, 5, 6, 7, 8, 9, 0x0A, 0x0B, 0x0C, 0x0D, 0x0E, 0x0F]

/-- The buffer holds all of a frame but its last byte. -/
def tenBytes : State := { idle with iab := [0x55, 0xAA, 0x11, 0x12, 0x13, 0x14, 0x15, 0x16, 0x17, 0x0D] }

/-- The switch `SNAP_WRITE_ATOMIC` at `false`. -/
def notAtomic (s : State) : State := { s with cfg := { s.cfg with snapWriteAtomic := false } }

/-- Both queues one slot deep. -/
def oneSlot (s : State) : State := { s with cfg := { s.cfg with txqDepth := 1, rxqDepth := 1 } }

/-! ### WellFormed refuses -/

theorem test_wf_refuses_rr_32 : (Instr.rr (.port 32)).wf = false := by decide
theorem test_wf_refuses_td_32 : (Instr.td (.port 32)).wf = false := by decide
theorem test_wf_takes_31 : (Instr.rr (.port 31)).wf = true ∧ (Instr.td (.port 31)).wf = true := by decide
theorem test_wf_refuses_no_txq : ({ idle.cfg with txqDepth := 0 } : Params).wf = false := by decide
theorem test_wf_refuses_no_rxq : ({ idle.cfg with rxqDepth := 0 } : Params).wf = false := by decide
theorem test_wf_takes_one_slot : (oneSlot idle).cfg.wf = true := by decide

/-! ### Decoding: every operation from bits written out from 30_encoding.md R74, R76, R80 -/

theorem test_decode_cc : decode (.cc 0b10100101) = .ok (.cc 0xA5) := rfl
/-- `00` on `cc_data` is a byte like any other. -/
theorem test_decode_cc_00 : decode (.cc 0b00000000) = .ok (.cc 0) := rfl
theorem test_decode_rr : decode (.ev 0b00 (some 0b10000)) = .ok (.rr (.port 16)) := rfl
theorem test_decode_rr_no_f : decode (.ev 0b00 none) = .ok (.rr .queue) := rfl
theorem test_decode_td : decode (.ev 0b01 (some 0b00011)) = .ok (.td (.port 3)) := rfl
theorem test_decode_br : decode (.ev 0b10 none) = .ok .br := rfl
/-- `ST` does not sample `tx_free`. -/
theorem test_decode_st : decode (.ev 0b11 (some 0b11111)) = .ok .st := rfl
theorem test_decode_frame :
    decode (.feed [0b01010101, 0b10101010, 1, 2, 3, 4, 5, 6, 7, 0b00001101, 0b00001010]) = .ok (.frame rec0) := rfl
theorem test_decode_get : decode (.busw 0b00010000) = .ok .get := rfl
theorem test_decode_pop : decode .pop = .ok .pop := rfl
theorem test_decode_wr : decode (.wr 0b00111100) = .ok (.wr 0x3C) := rfl
theorem test_decode_reset : decode (.rst 0b1) = .ok .reset := rfl

/-- The marker bytes swapped (V18). -/
theorem test_reject_swapped_markers :
    decode (.feed [0xAA, 0x55, 1, 2, 3, 4, 5, 6, 7, 0x0D, 0x0A]) = .error .noFrame := rfl
theorem test_reject_other_command : decode (.busw 0x11) = .error .noCommand := rfl
theorem test_reject_rst_low : decode (.rst 0) = .error .notAsserted := rfl

/-! Bits as spec/opcode_table.json numbers them. -/

theorem test_table_events :
    decodeTableWord 8 0 = some (.rr (.port 0)) ∧ decodeTableWord 8 1 = some (.td (.port 0)) ∧
    decodeTableWord 8 2 = some .br ∧ decodeTableWord 8 3 = some .st := ⟨rfl, rfl, rfl, rfl⟩
theorem test_table_get_pop_reset :
    decodeTableWord 8 0x10 = some .get ∧ decodeTableWord 0 0 = some .pop ∧ decodeTableWord 1 1 = some .reset :=
  ⟨rfl, rfl, rfl⟩
theorem test_table_cc : decodeTableWord 8 0xA5 = some (.cc 0xA5) := rfl
theorem test_table_frame : decodeTableWord 88 0x55AA010203040506070D0A = some (.frame rec0) := rfl
/-- The same frame with its first byte least significant. -/
theorem test_table_frame_first_byte_low : decodeTableWord 88 0x0A0D07060504030201AA55 = some (.frame rec0) := rfl

/-! ### One operation -/

/-- V1, its last byte. -/
theorem test_cc_commits : exec (.cc 0x0A) tenBytes = .next { tenBytes with snap := rec1, iab := [] } := rfl
/-- V6: the end marker inside the payload. -/
theorem test_cc_rejects : exec (.cc 0x0A) { idle with iab := [0x55, 0xAA, 1, 2, 0x0D] } =
    .next { idle with badcnt := 1 } := rfl
/-- V10: six loose bytes before a frame. -/
theorem test_frame_after_loose_bytes : exec (.frame rec1) { idle with iab := [0xF0, 0xF1, 0xF2, 0xF3, 0xF4, 0xF5] } =
    .next { idle with snap := rec1, ovfcnt := 1 } := rfl
/-- V13: the frame is cut, its end marker is left. -/
theorem test_frame_cut : exec (.frame recCut) idle = .next { idle with iab := [0x0D, 0x0A], badcnt := 1 } := rfl
/-- 40_bus_responder.md R92, its example. -/
theorem test_rr_3 : exec (.rr (.port 3)) idle = .next serving := rfl
/-- V55: the reference queue of depth 4 reports `f = 4`. -/
theorem test_rr_queue :
    exec (.rr .queue) { idle with cfg := { idle.cfg with txqDepth := 4 } } =
      .next { idle with cfg := { idle.cfg with txqDepth := 4 }, pob := rec0, mode := .serving, cur := 4, rem := 3,
                        txq := [1, 2, 3, 4] } := rfl
/-- 30_encoding.md R77: with `TXQ_DEPTH = 1` the value 5 is treated as any `f >= 7`. -/
theorem test_free_above_depth : freeCapacity (.port 5) (oneSlot idle) = 7 ∧ freeCapacity (.port 1) (oneSlot idle) = 1 := ⟨rfl, rfl⟩
/-- 40_bus_responder.md R95, its example. -/
theorem test_td_2 : exec (.td (.port 2)) serving = .next { serving with cur := 5, rem := 2, txq := [1, 2, 3, 4, 5] } := rfl
/-- V34. -/
theorem test_td_idle : exec (.td (.port 16)) idle = .next idle := rfl
/-- V42: three bytes of any value; the event is cleared. -/
theorem test_br : exec .br { idle with rxq := [0x10, 0xFF, 0x00], pending := [.br] } = .next { idle with rxcnt := 3 } := rfl
/-- V45: the counter at its wrap. -/
theorem test_br_wraps : exec .br { idle with rxq := [0x10], rxcnt := 0xFFFFFFFF } = .next { idle with rxcnt := 0 } := rfl
/-- V52: the queue is emptied at the stop. -/
theorem test_st_flushes : exec .st serving = .next { idle with pob := rec0 } := rfl
/-- V53: not with the switch off. -/
theorem test_st_keeps : exec .st { serving with cfg := { idle.cfg with txqFlushOnStop := false } } =
    .next { idle with cfg := { idle.cfg with txqFlushOnStop := false }, pob := rec0, txq := [1, 2, 3] } := rfl
/-- V41. -/
theorem test_get : exec .get idle = .next { idle with rxcnt := 1 } := rfl
/-- 42_bus_queues.md R132, its example. -/
theorem test_pop : exec .pop serving = .next { serving with txq := [2, 3], received := [1] } := rfl
/-- V57. -/
theorem test_pop_empty : exec .pop idle = .fault .popHasNoStep := rfl
/-- 42_bus_queues.md R135, its example. -/
theorem test_wr : exec (.wr 0x10) idle = .next { idle with rxq := [0x10], pending := [.br] } := rfl
/-- V56. -/
theorem test_wr_full : exec (.wr 0x10) (oneSlot { idle with rxq := [0xFF] }) = .fault .wrHasNoStep := rfl
/-- V62. -/
theorem test_reset : exec .reset { serving with rxcnt := 5, iab := [0x55] } =
    .next { idle with snap := recE, pob := Config.pobAtReset 1, freeIdx := 2 } := rfl

/-! ### One step -/

theorem test_step_runs_a_word : step (serving.prependWord (.ev 0b11 none)) = .next { idle with pob := rec0 } := rfl
theorem test_step_fetch_word : step (serving.withFetchWord 8 3) = .next { idle with pob := rec0 } := rfl
theorem test_step_delivers : step { idle with rxq := [0x10], pending := [.br] } = .next { idle with rxcnt := 1 } := rfl
/-- V2: bytes on the control channel that are no frame. -/
theorem test_step_feeds : step (idle.prependWord (.feed [0x55, 0xAA, 1, 2, 3, 4, 5, 6, 0x0D, 0x0A])) =
    .next { idle with badcnt := 1 } := rfl
theorem test_step_rst_low : step (serving.prependWord (.rst 0)) = .next serving := rfl
/-- 30_encoding.md R84, U11: another command byte is counted and otherwise ignored, exactly like `10`. -/
theorem test_step_other_command : step (oneSlot (idle.prependWord (.busw 0x11))) = .next (oneSlot { idle with rxcnt := 1 }) := rfl

/-! ### Witnesses -/

theorem witness_DecodeOfEncode : (Instr.rr (.port 31)).wf = true ∧ (Instr.td .queue).wf = true := by decide
/-- One for each way to decode, and one for each way not to. -/
theorem witness_DecodedWords :
    decode (encode (.wr 0xFF)) = .ok (.wr 0xFF) ∧ decode (.ev 0b10 (some 0b11111)) = .ok .br ∧
    decode (.ev 0b11 (some 0)) = .ok .st ∧ decode (.busw 0x0F) = .error .noCommand ∧
    decode (.rst 0) = .error .notAsserted ∧ decode (.feed []) = .error .noFrame := ⟨rfl, rfl, rfl, rfl, rfl, rfl⟩
/-- One for each clause. -/
theorem witness_StepRuns :
    ((idle.prependWord (.ev 0 (some 7))).inputs = .word (.ev 0 (some 7)) :: [] ∧
      decode (.ev 0 (some 7)) = .ok (.rr (.port 7))) ∧
    (idle.prependWord (.feed [0x55])).inputs = .word (.feed [0x55]) :: [] ∧
    (idle.prependWord (.busw 0x11)).inputs = .word (.busw 0x11) :: [] ∧
    (idle.prependWord (.rst 0)).inputs = .word (.rst 0) :: [] := ⟨⟨rfl, rfl⟩, rfl, rfl, rfl⟩
theorem witness_StepRunsEvery : (Instr.frame recCut).wf = true := by decide
theorem witness_StepDelivers : ({ idle with pending := [.td, .st] } : State).inputs = [] ∧
    ({ idle with pending := [.td, .st] } : State).pending = .td :: [.st] := ⟨rfl, rfl⟩
theorem witness_StepIdles : serving.inputs = [] ∧ serving.pending = [] := ⟨rfl, rfl⟩
/-- The neighbouring address, and the block's own. -/
theorem witness_OtherBusAddresses :
    ({ idle with inputs := [.addressed 0x54 (.ev 0 none)] } : State).inputs = .addressed 0x54 (.ev 0 none) :: [] ∧
    (0x54 : BitVec 7) ≠ 0x55 ∧
    ({ idle with inputs := [.addressed 0x55 (.ev 0 none)] } : State).inputs = .addressed 0x55 (.ev 0 none) :: [] :=
  ⟨rfl, by decide, rfl⟩
/-- The byte commits a frame, so the two orders differ. -/
theorem witness_SameInstant :
    ({ tenBytes with inputs := [.together 0x0A (.ev 0 (some 7))] } : State).inputs = .together 0x0A (.ev 0 (some 7)) :: [] ∧
    decode (.ev 0 (some 7)) = .ok (.rr (.port 7)) ∧ tenBytes.cfg.snapWriteAtomic = true := ⟨rfl, rfl, rfl⟩
theorem witness_CopyInside :
    ({ notAtomic tenBytes with inputs := [.together 0x0A (.ev 0 none)] } : State).inputs = .together 0x0A (.ev 0 none) :: [] ∧
    decode (.ev 0 none) = .ok (.rr .queue) ∧ (notAtomic tenBytes).cfg.snapWriteAtomic = false := ⟨rfl, rfl, rfl⟩
theorem witness_ReadRequested_outside : idle.commitOld = none := rfl
theorem witness_ReadRequested_atomic : ({ idle with commitOld := some rec1 } : State).commitOld = some rec1 ∧
    ({ idle with commitOld := some rec1 } : State).cfg.snapWriteAtomic = true := ⟨rfl, rfl⟩
theorem witness_TornReadRequested : (notAtomic { idle with commitOld := some rec1 }).commitOld = some rec1 ∧
    (notAtomic { idle with commitOld := some rec1 }).cfg.snapWriteAtomic = false := ⟨rfl, rfl⟩
theorem witness_TransmitQueueDrained_nothing : idle.rem = 0 := rfl
/-- At the bound, in `Serving`, and in `Idle`. -/
theorem witness_Push : serving.cur + serving.rem = 7 ∧ idle.cur + idle.rem ≤ 7 ∧ idle.rem = 0 := by decide
theorem witness_OwedDrain : serving.DrainOwed ∧ serving.cur + serving.rem = 7 := ⟨⟨rfl, by decide, by decide⟩, rfl⟩
theorem witness_OnlyReadStopAndReset :
    (∃ t, exec (.rr .queue) serving = .next t) ∧ (∃ t, exec .st serving = .next t) ∧
    (∃ t, exec .reset serving = .next t) ∧ (∃ t, exec .pop serving = .next t) := ⟨⟨_, rfl⟩, ⟨_, rfl⟩, ⟨_, rfl⟩, ⟨_, rfl⟩⟩
theorem witness_DrainsPush : idle.commitOld = none := rfl
/-- A transfer with a commit, a drain, a write and a take in it. -/
theorem witness_TransferInFlight :
    idle.commitOld = none ∧
    (∀ i ∈ [Instr.cc 0x0A, .td (.port 2), .pop, .wr 0x10, .br], i.keepsTransfer = true) ∧
    ∃ t, execSeq (.rr (.port 3) :: [Instr.cc 0x0A, .td (.port 2), .pop, .wr 0x10, .br]) idle = .next t :=
  ⟨rfl, by decide, ⟨_, rfl⟩⟩
/-- Bytes before the first `POP`, after a `POP` and after a `TD`; spare drains; the last two `POP`s find nothing remaining
where the transmit queue has two slots. -/
def mixedRead : List Instr :=
  [.cc 0x0A, .td .queue, .pop, .cc 0x55, .td .queue, .cc 1, .pop, .td .queue, .pop, .td .queue, .pop, .td .queue,
   .pop, .td .queue, .td .queue, .pop, .pop, .td .queue]
/-- `tenBytes` with two slots in the transmit queue. -/
def twoSlots : State := { tenBytes with cfg := { tenBytes.cfg with txqDepth := 2 } }
theorem witness_ClosedRead :
    twoSlots.commitOld = none ∧ twoSlots.txq = [] ∧ 1 ≤ twoSlots.cfg.txqDepth ∧
    (∀ i ∈ mixedRead, i = .pop ∨ i = .td .queue ∨ ∃ b, i = .cc b) ∧ mixedRead.count .pop = 7 ∧
    drainsFollow (.rr .queue :: mixedRead) twoSlots = true ∧ ∃ t, execSeq (.rr .queue :: mixedRead) twoSlots = .next t :=
  ⟨rfl, rfl, by decide, by simp [mixedRead], by decide, by decide, ⟨_, rfl⟩⟩
theorem witness_Poll : idle.commitOld = none ∧ 7 ≤ idle.cfg.txqDepth ∧ idle.rxq.length < idle.cfg.rxqDepth ∧
    idle.cfg.txqFlushOnStop = true := ⟨rfl, by decide, by decide, rfl⟩
theorem witness_PollShapes : idle.commitOld = none ∧ idle.txq = [] ∧ 7 ≤ idle.cfg.txqDepth ∧
    idle.rxq.length < idle.cfg.rxqDepth ∧ [] ∈ [[Instr.wr 0x10, .br, .st], [Instr.wr 0x10, .br], []] :=
  ⟨rfl, rfl, by decide, by decide, by decide⟩
theorem witness_LargeFree : 7 ≤ 7 ∧ (7 ≤ 31 ∨ serving.cfg.txqDepth < 31) ∧ (oneSlot idle).cfg.txqDepth < 2 ∧ ({ serving with cur := 0, rem := 7 } : State).rem ≤ 7 := by decide
theorem witness_SnapshotBytes : ([9, 9, 9] : List Byte).length = serving.txq.length := rfl
theorem witness_WrittenBytes : ([0xFF] : List Byte).length = ({ idle with rxq := [0x10] } : State).rxq.length := rfl
theorem witness_Counters : ∃ t, exec .br { idle with rxq := [0x10], rxcnt := 0xFFFFFFFF } = .next t := ⟨_, rfl⟩
theorem witness_Pop : serving.txq = 1 :: [2, 3] := rfl
theorem witness_PopNoStep : idle.txq = [] ∧ idle.rem = 0 := ⟨rfl, rfl⟩
/-- One slot free, and none. -/
theorem witness_Write : (oneSlot idle).rxq.length < (oneSlot idle).cfg.rxqDepth ∧
    ¬ (oneSlot { idle with rxq := [1] }).rxq.length < (oneSlot { idle with rxq := [1] }).cfg.rxqDepth := by decide
theorem witness_Get : (oneSlot idle).rxq.length < (oneSlot idle).cfg.rxqDepth ∧
    ¬ (oneSlot { idle with rxq := [1] }).rxq.length < (oneSlot { idle with rxq := [1] }).cfg.rxqDepth := by decide
/-- A full transmit queue is offered nothing. -/
theorem witness_ClosedTransmitQueue :
    (Instr.rr .queue).closed = true ∧ (oneSlot { idle with txq := [9] }).txq.length ≤ (oneSlot idle).cfg.txqDepth ∧
    ∃ t, exec (.rr .queue) (oneSlot { idle with txq := [9] }) = .next t := ⟨rfl, by decide, ⟨_, rfl⟩⟩
theorem witness_FindStart : findStart [0x55, 0x55, 0xAA, 0x55, 0xAA] = some 1 ∧ findStart [0xAA, 0x55] = none := by decide
/-- An end marker before the start marker is not looked at (V5); swapped bytes are none (V19). -/
theorem witness_FindEnd : findEnd 2 [0x0D, 0x0A, 0x55, 0xAA, 0x0D, 0x0D, 0x0A] = some 5 ∧
    findEnd 0 [0x55, 0xAA, 0x0A, 0x0D] = none := by decide
theorem witness_ScanFromTheStart : tenBytes.iab[0]? = some (0x55 : Byte) ∧ tenBytes.iab[0 + 1]? = some (0xAA : Byte) :=
  ⟨rfl, rfl⟩
/-- One byte from full, and V9, full. -/
theorem witness_ByteWithoutASpan :
    (NoSpan (appended 0x10 { idle with iab := loose16.drop 1 }) ∧ ({ idle with iab := loose16.drop 1 } : State).n < 16) ∧
    (NoSpan (appended 0x10 { idle with iab := loose16 }) ∧ ({ idle with iab := loose16 } : State).n = 16) :=
  ⟨⟨noSpan_of_noStart ((noStart_iff _).mpr (by decide)), by decide⟩,
    ⟨noSpan_of_noStart ((noStart_iff _).mpr (by decide)), by decide⟩⟩
/-- V1, and V10: the byte that completes the span also overflows. -/
theorem witness_SpanOfSeven :
    (findStart (appended 0x0A tenBytes) = some 0 ∧ findEnd 0 (appended 0x0A tenBytes) = some 9 ∧ 9 = 0 + 9 ∧
      rec1.bytes = ((appended 0x0A tenBytes).drop (0 + 2)).take 7) ∧
    (let s : State := { idle with iab := [0xF0, 0xF1, 0xF2, 0xF3, 0xF4, 0xF5] ++ tenBytes.iab }
     s.n = 16 ∧ findStart (appended 0x0A s) = some 5 ∧ findEnd 5 (appended 0x0A s) = some 14 ∧ 14 = 5 + 9 ∧
      rec1.bytes = ((appended 0x0A s).drop (5 + 2)).take 7) := by decide
theorem witness_CompleteSpan : findStart (frameBytes rec0) = some 0 ∧ findEnd 0 (frameBytes rec0) = some 9 ∧
    payloadLength 0 9 = 7 := by decide
/-- An empty payload (V4), and one of twelve bytes (V11b). -/
theorem witness_SpanOfAnotherLength :
    (let s : State := { idle with iab := [0x55, 0xAA, 0x0D] }
     findStart (appended 0x0A s) = some 0 ∧ findEnd 0 (appended 0x0A s) = some 2 ∧ 2 ≠ 0 + 9) ∧
    (let s : State := { idle with iab := [0x55, 0xAA] ++ List.replicate 12 0x20 ++ [0x0D] }
     findStart (appended 0x0A s) = some 0 ∧ findEnd 0 (appended 0x0A s) = some 14 ∧ 14 ≠ 0 + 9) := by decide
theorem witness_ParserTakes : (∃ b, Instr.cc 0 = .cc b) ∧ (∃ p, Instr.frame rec0 = .frame p) := ⟨⟨_, rfl⟩, ⟨_, rfl⟩⟩
/-- A full buffer of loose bytes ahead of the frame. -/
theorem witness_FrameIsAccepted :
    NoStart ({ idle with iab := loose16 } : State).iab ∧ ({ idle with iab := loose16 } : State).n ≤ 16 ∧ NoEnd rec1.bytes :=
  ⟨(noStart_iff _).mpr (by decide), by decide, (noEnd_iff _).mpr (by decide)⟩
/-- The empty payload, and one of twelve bytes. -/
theorem witness_PayloadOfAnotherLength :
    NoStart idle.iab ∧ idle.n ≤ 16 ∧ NoEnd [] ∧ NoEnd (List.replicate 12 0x20) ∧
    (List.replicate 12 (0x20 : Byte)).length ≤ 12 ∧ (List.replicate 12 (0x20 : Byte)).length ≠ 7 :=
  ⟨(noStart_iff _).mpr (by decide), by decide, (noEnd_iff _).mpr (by decide), (noEnd_iff _).mpr (by decide), by decide,
    by decide⟩
theorem witness_SameFrameTwice : NoStart idle.iab ∧ idle.n ≤ 16 ∧ NoEnd rec0.bytes :=
  ⟨(noStart_iff _).mpr (by decide), by decide, (noEnd_iff _).mpr (by decide)⟩
/-- V9 with one byte more than fits. -/
theorem witness_BufferHolds : ({ idle with iab := loose16 } : State).n ≤ 16 ∧
    NoSpan (({ idle with iab := loose16 } : State).iab ++ [0x10]) :=
  ⟨by decide, noSpan_of_noStart ((noStart_iff _).mpr (by decide))⟩
theorem witness_HandledSpan : NoSpan tenBytes.iab ∧ ∃ t, exec (.cc 0x0A) tenBytes = .next t :=
  ⟨noSpan_of_noEnd ((noEnd_iff _).mpr (by decide)), ⟨_, rfl⟩⟩
/-- The longest payload a 16-byte buffer can show. -/
theorem witness_PayloadLength :
    let l : List Byte := [0x55, 0xAA] ++ List.replicate 12 0x20 ++ [0x0D, 0x0A]
    l.length ≤ 16 ∧ findStart l = some 0 ∧ findEnd 0 l = some 14 := by decide
theorem witness_BytesLeave : ∃ t, exec (.cc 0x0A) tenBytes = .next t := ⟨_, rfl⟩
theorem witness_PayloadWithAnEndMarker : NoStart idle.iab ∧ idle.n ≤ 16 ∧ EndAt recCut.bytes 5 ∧
    (∀ m < 5, ¬ EndAt recCut.bytes m) ∧ NoSpan (recCut.bytes.drop (5 + 2) ++ [0x0D, 0x0A]) :=
  ⟨(noStart_iff _).mpr (by decide), by decide, by decide, by decide, noSpan_of_noStart ((noStart_iff _).mpr (by decide))⟩
/-- P4: `55 AA 09` is left waiting. -/
theorem witness_StaleStartMarker :
    ({ idle with iab := [0x55, 0xAA, 0x09] } : State).iab = [0x55, 0xAA] ++ [0x09] ∧ ([0x09] : List Byte).length ≤ 3 ∧
    NoEnd [0x09] ∧ NoEnd rec0.bytes :=
  ⟨rfl, by decide, (noEnd_iff _).mpr (by decide), (noEnd_iff _).mpr (by decide)⟩
/-- The shortest long span (V11c), from a full buffer. -/
theorem witness_LongSpan :
    NoStart ({ idle with iab := loose16 } : State).iab ∧ ({ idle with iab := loose16 } : State).n ≤ 16 ∧
    13 ≤ (List.replicate 13 (0x20 : Byte)).length ∧ NoStart (List.replicate 13 0x20) ∧ NoEnd (List.replicate 13 0x20) :=
  ⟨(noStart_iff _).mpr (by decide), by decide, by decide, (noStart_iff _).mpr (by decide), (noEnd_iff _).mpr (by decide)⟩
/-- Each register at the top of its range. -/
theorem witness_DiagnosticPort :
    ({ serving with cur := 7, rem := 0 } : State).cur ≤ 7 ∧ ({ serving with cur := 0, rem := 7 } : State).rem ≤ 7 ∧
    ({ idle with iab := loose16 } : State).iab.length ≤ 16 := by decide
theorem witness_NothingButUnspecifiedPobMaySurviveAReset : idle.cfg = serving.cfg ∧ (∃ t, exec .reset idle = .next t) ∧
    ∃ t, exec .reset serving = .next t := ⟨rfl, ⟨_, rfl⟩, ⟨_, rfl⟩⟩
/-- One for each of the two clauses. -/
theorem witness_EachPiece :
    ((Instr.rr .queue).mayWriteSnap = false ∧ ∃ t, exec (.rr .queue) idle = .next t) ∧
    ∃ t, exec (.cc 0x0A) tenBytes = .next t := ⟨⟨rfl, ⟨_, rfl⟩⟩, ⟨_, rfl⟩⟩
/-- An operation that runs, and the two that have no step. -/
theorem witness_OnlyTheEnvironment :
    (¬ ((Instr.pop = .pop) ∧ serving.txq = []) ∧ ¬ (((∃ b, Instr.pop = .wr b) ∨ Instr.pop = .get) ∧
      serving.cfg.rxqDepth ≤ serving.rxq.length)) ∧ idle.txq = [] ∧
    (oneSlot { idle with rxq := [1] }).cfg.rxqDepth ≤ (oneSlot { idle with rxq := [1] }).rxq.length :=
  ⟨⟨by simp [serving], by simp⟩, rfl, by decide⟩
/-- In the middle of a read and of a frame, with a written byte waiting. -/
theorem witness_EveryStepKeepsTheInvariant :
    let s : State := { serving with iab := tenBytes.iab, rxq := [0x10], pending := [.br], inputs := [.word (.cc 0x0A)] }
    s.Inv ∧ ∃ t, step s = .next t := by
  refine ⟨⟨⟨?_, fun _ => rfl⟩, by decide, noSpan_of_noEnd ((noEnd_iff _).mpr (by decide)), by decide, fun _ => ?_⟩, ⟨_, rfl⟩⟩
  · intro h; cases h
  · exact List.mem_singleton.mpr rfl

end Sys2Proof.Tests
end

section
/-! PROOF. Counter arithmetic: how far each diagnostic counter advances, read as a natural number modulo its width. -/

namespace Sys2Proof.Machine

theorem toNat_counter_add_ofNat (c : Counter) (k : Nat) :
    (c + BitVec.ofNat 32 k).toNat = (c.toNat + k) % 2 ^ 32 := by
  rw [BitVec.toNat_add, BitVec.toNat_ofNat, Nat.add_mod_mod]

theorem toNat_counter_add_one (c : Counter) : (c + 1).toNat = (c.toNat + 1) % 2 ^ 32 :=
  toNat_counter_add_ofNat c 1

theorem exec_br_rxcnt {s t : State} (h : exec .br s = .next t) :
    t.rxcnt = s.rxcnt + BitVec.ofNat 32 s.rxq.length := by
  rw [exec_br] at h
  cases h
  rw [drainRxq_rxcnt, takeEvent_rxcnt, takeEvent_rxq]

/-- Settles O27: the field laws give each counter's new word, and adding in 32 bits is adding modulo `2^32`. -/
theorem countersWrapModuloTheirWidth : Obligations.CountersWrapModuloTheirWidth := by
  unfold Obligations.CountersWrapModuloTheirWidth
  refine ⟨fun s t h => ?_, fun s => ?_, fun s => ?_⟩
  · rw [exec_br_rxcnt h, toNat_counter_add_ofNat]
  · rw [raise_malformed_badcnt, toNat_counter_add_one]
  · rw [raise_overflow_ovfcnt, toNat_counter_add_one]

end Sys2Proof.Machine
end

section
/-! PROOF. What an operation that answers a next state has done, said once; the proofs about every operation split on it. -/

namespace Sys2Proof.Machine

/-- From `s` the operation has a next state, and it is this one: each operation in terms of the shared operations, with the
guard of the three that can have no step. -/
inductive ExecNext (s : State) : Instr → State → Prop
  | cc (b : Byte) : ExecNext s (.cc b) (parseByte b s)
  | rr (f : FreeOperand) : ExecNext s (.rr f) (push (freeCapacity f s) (startServing (copySnapshot (takeEvent .rr s))))
  | td (f : FreeOperand) : ExecNext s (.td f) (push (freeCapacity f s) (takeEvent .td s))
  | br : ExecNext s .br (drainRxq (takeEvent .br s))
  | st : ExecNext s .st (flushTxq (stopServing (takeEvent .st s)))
  | frame (p : Record) : ExecNext s (.frame p) (parseBytes (frameBytes p) s)
  | get (room : s.rxq.length < s.cfg.rxqDepth) : ExecNext s .get (drainRxq (takeEvent .br (masterWrite cmdGet s)))
  | pop (b : Byte) (rest : List Byte) (head : s.txq = b :: rest) :
      ExecNext s .pop { s with txq := rest, received := s.received ++ [b] }
  | wr (b : Byte) (room : s.rxq.length < s.cfg.rxqDepth) : ExecNext s (.wr b) (masterWrite b s)
  | reset : ExecNext s .reset (resetState s)

/-- An operation has one answer. -/
theorem execNext_of_eq {i : Instr} {s t u : State} (hu : exec i s = .next u) (ht : exec i s = .next t)
    (hn : ExecNext s i u) : ExecNext s i t := by
  rw [hu, Host.Outcome.next.injEq] at ht
  exact ht ▸ hn

theorem execNext_of_exec {i : Instr} {s t : State} (h : exec i s = .next t) : ExecNext s i t := by
  cases i with
  | get => obtain ⟨room, rfl⟩ := exec_get_next h; exact .get room
  | pop => obtain ⟨b, rest, head, rfl⟩ := exec_pop_next h; exact .pop b rest head
  | wr b => obtain ⟨room, rfl⟩ := exec_wr_next h; exact .wr b room
  | cc b => exact execNext_of_eq (exec_cc b s) h (.cc b)
  | rr f => exact execNext_of_eq (exec_rr f s) h (.rr f)
  | td f => exact execNext_of_eq (exec_td f s) h (.td f)
  | br => exact execNext_of_eq (exec_br s) h .br
  | st => exact execNext_of_eq (exec_st s) h .st
  | frame p => exact execNext_of_eq (exec_frame p s) h (.frame p)
  | reset => exact execNext_of_eq (exec_reset s) h .reset

end Sys2Proof.Machine
end

section
/-! PROOF. The invariant of the whole machine: each part of it under the operations that write its fields, then each
operation, a sequence of operations, and a step. -/

namespace Sys2Proof.Machine

/-! ### The assembly buffer -/

theorem not_endAt_of_findEnd_none {i : Nat} {l : List Byte} (h : findEnd i l = none) {j : Nat} (hij : i + 2 ≤ j) :
    ¬ EndAt l j := by
  rw [findEnd, Option.map_eq_none_iff, findPair_none] at h
  have hj := h (j - (i + 2))
  rwa [pairAt_drop, Nat.add_sub_of_le hij] at hj

theorem endAt_of_findEnd {i j : Nat} {l : List Byte} (h : findEnd i l = some j) : i + 2 ≤ j ∧ EndAt l j := by
  rw [findEnd, Option.map_eq_some_iff] at h
  obtain ⟨k, hk, rfl⟩ := h
  have hend := ((findPair_some ..).mp hk).1
  rw [pairAt_drop, Nat.add_comm] at hend
  exact ⟨Nat.le_add_left .., hend⟩

/-- If the two scans find no span then there is none: the least start marker leaves the most room for an end marker. -/
theorem noSpan_of_scans {l : List Byte} (h : ∀ i, findStart l = some i → findEnd i l = none) : NoSpan l := by
  intro i j hi hj
  by_contra hij
  cases hm : findStart l with
  | none => exact (noStart_iff l).mpr hm i hi
  | some m =>
    have hmi : m ≤ i := by
      by_contra hlt
      exact ((findPair_some ..).mp hm).2 i (by omega) hi
    exact not_endAt_of_findEnd_none (h m hm) (by omega) hj

theorem noSpan_drop {l : List Byte} (h : NoSpan l) (k : Nat) : NoSpan (l.drop k) := by
  intro i j hi hj
  have := h (k + i) (k + j) ((pairAt_drop ..).mp hi) ((pairAt_drop ..).mp hj)
  omega

/-- The append step puts the new byte behind what is kept of the old ones. -/
theorem appended_eq_drop_append (b : Byte) (s : State) : ∃ k, appended b s = s.iab.drop k ++ [b] := by
  unfold appended
  split
  · exact ⟨1, rfl⟩
  · exact ⟨0, rfl⟩

theorem length_appended_le (b : Byte) {s : State} (h : s.n ≤ iabCap) : (appended b s).length ≤ iabCap := by
  unfold State.n at h
  by_cases hfull : s.iab.length = iabCap
  · rw [appended, State.n, if_pos hfull, List.length_append, List.length_drop, List.length_singleton]
    have : 0 < iabCap := by decide
    omega
  · rw [appended, State.n, if_neg hfull, List.length_append, List.length_singleton]
    omega

theorem PairAt.of_append {a b : Byte} {l m : List Byte} {i : Nat} (h : PairAt a b (l ++ m) i) (hi : i + 1 < l.length) :
    PairAt a b l i := by
  unfold PairAt at *
  rwa [List.getElem?_append_left (by omega), List.getElem?_append_left hi] at h

/-- When no span waited, one that the new byte completes ends with that byte: nothing is left behind its end marker. -/
theorem drop_appended_of_span {b : Byte} {s : State} {i j : Nat} (hs : NoSpan s.iab) (hi : StartAt (appended b s) i)
    (hj : EndAt (appended b s) j) (hij : i + 2 ≤ j) : (appended b s).drop (j + 2) = [] := by
  obtain ⟨k, hk⟩ := appended_eq_drop_append b s
  rw [hk] at hi hj ⊢
  rw [List.drop_eq_nil_iff, List.length_append, List.length_singleton]
  by_contra hlt
  have := noSpan_drop hs k i j (hi.of_append (by omega)) (hj.of_append (by omega))
  omega

theorem parseByte_n_le (b : Byte) {s : State} (h : s.n ≤ iabCap) : (parseByte b s).n ≤ iabCap := by
  have hl := length_appended_le b h
  obtain ⟨-, h⟩ | ⟨i, j, -, -, h⟩ := parseByte_cases b s
  · rwa [h, State.n, appendByte_iab_appended]
  · rw [h, State.n, handleSpan_iab, appendByte_iab_appended, List.length_drop]
    omega

theorem parseByte_noSpan (b : Byte) {s : State} (hs : NoSpan s.iab) : NoSpan (parseByte b s).iab := by
  obtain ⟨hnone, h⟩ | ⟨i, j, hi, hj, h⟩ := parseByte_cases b s
  · rw [h, appendByte_iab_appended]
    exact noSpan_of_scans hnone
  · obtain ⟨hij, hend⟩ := endAt_of_findEnd hj
    rw [h, handleSpan_iab, appendByte_iab_appended, drop_appended_of_span hs ((findPair_some ..).mp hi).1 hend hij]
    exact noSpan_of_noStart (not_pairAt_nil _ _)

/-! ### Mode and the sequencing registers -/

theorem modeInv_congr {s t : State} (h : s.ModeInv) (hm : t.mode = s.mode := by simp) (hc : t.cur = s.cur := by simp)
    (hr : t.rem = s.rem := by simp) : t.ModeInv := by
  rwa [State.ModeInv, hm, hc, hr]

/-- A push moves as much to `cur` as it takes from `rem`, and in `Idle` there is nothing to move. -/
theorem modeInv_push (f : Nat) {s : State} (h : s.ModeInv) : (push f s).ModeInv := by
  obtain ⟨hidle, hserving⟩ := h
  refine ⟨fun hm => ?_, fun hm => ?_⟩
  · obtain ⟨hc, hr⟩ := hidle hm
    simp [hc, hr]
  · have := hserving hm
    simp only [push_cur, push_rem]
    omega

theorem modeInv_of_idle {s : State} (hm : s.mode = .idle := by simp) (hc : s.cur = 0 := by simp)
    (hr : s.rem = 0 := by simp) : s.ModeInv :=
  ⟨fun _ => ⟨hc, hr⟩, fun h => by rw [hm] at h; cases h⟩

theorem modeInv_startServing (s : State) : (startServing s).ModeInv := ⟨nofun, fun _ => rfl⟩

/-! ### The operations -/

theorem SameBlock.inv {s t : State} (h : SameBlock s t) (hs : s.Inv) : t.Inv where
  mode := modeInv_congr hs.mode h.mode h.cur h.rem
  iabBound := by rw [State.n, h.iab]; exact hs.iabBound
  noSpan := by rw [h.iab]; exact hs.noSpan
  rxBound := by rw [h.rxq, h.cfg]; exact hs.rxBound
  rxPending := by rw [h.rxq, h.pending]; exact hs.rxPending

theorem inv_parseByte (b : Byte) {s : State} (hs : s.Inv) : (parseByte b s).Inv where
  mode := modeInv_congr hs.mode
  iabBound := parseByte_n_le b hs.iabBound
  noSpan := parseByte_noSpan b hs.noSpan
  rxBound := by simpa using hs.rxBound
  rxPending := by simpa using hs.rxPending

theorem inv_parseBytes (bs : List Byte) {s : State} (hs : s.Inv) : (parseBytes bs s).Inv := by
  induction bs generalizing s with
  | nil => exact hs
  | cons b bs ih => exact ih (inv_parseByte b hs)

/-- Delivering an event other than `BR` touches no buffer and no written byte, so only the mode has to be looked at. -/
theorem inv_of_event {e : Event} {s t : State} (he : Event.br ≠ e) (hs : s.Inv) (hmode : t.ModeInv)
    (hiab : t.iab = s.iab := by simp) (hrxq : t.rxq = s.rxq := by simp) (hcfg : t.cfg = s.cfg := by simp)
    (hpending : t.pending = s.pending.erase e := by simp) : t.Inv where
  mode := hmode
  iabBound := by rw [State.n, hiab]; exact hs.iabBound
  noSpan := by rw [hiab]; exact hs.noSpan
  rxBound := by rw [hrxq, hcfg]; exact hs.rxBound
  rxPending hne := by
    rw [hrxq] at hne
    rw [hpending]
    exact (List.mem_erase_of_ne he).mpr (hs.rxPending hne)

/-- With the receive queue drained no event is owed. -/
theorem inv_of_drained {s t : State} (hs : s.Inv) (hmode : t.ModeInv)
    (hiab : t.iab = s.iab := by simp) (hrxq : t.rxq = [] := by simp) : t.Inv where
  mode := hmode
  iabBound := by rw [State.n, hiab]; exact hs.iabBound
  noSpan := by rw [hiab]; exact hs.noSpan
  rxBound := by rw [hrxq]; exact Nat.zero_le _
  rxPending hne := absurd hrxq hne

/-- A write puts one byte into a queue that has room for it and makes its event pending. -/
theorem inv_masterWrite (b : Byte) {s : State} (hs : s.Inv) (room : s.rxq.length < s.cfg.rxqDepth) :
    (masterWrite b s).Inv where
  mode := modeInv_congr hs.mode
  iabBound := by rw [State.n, masterWrite_iab]; exact hs.iabBound
  noSpan := by rw [masterWrite_iab]; exact hs.noSpan
  rxBound := by simpa using room
  rxPending _ := by
    rw [masterWrite_pending]
    split
    · assumption
    · simp

/-- Nothing waits in a machine that is `Idle` with its buffer and its receive queue empty. -/
theorem inv_of_empty {s : State} (hm : s.mode = .idle := by simp) (hc : s.cur = 0 := by simp)
    (hr : s.rem = 0 := by simp) (hiab : s.iab = [] := by simp) (hrxq : s.rxq = [] := by simp) : s.Inv where
  mode := modeInv_of_idle hm hc hr
  iabBound := by rw [State.n, hiab]; exact Nat.zero_le _
  noSpan := by rw [hiab]; exact noSpan_of_noStart (not_pairAt_nil _ _)
  rxBound := by rw [hrxq]; exact Nat.zero_le _
  rxPending hne := absurd hrxq hne

theorem inv_exec {i : Instr} {s t : State} (hs : s.Inv) (h : exec i s = .next t) : t.Inv := by
  cases execNext_of_exec h with
  | cc b => exact inv_parseByte b hs
  | rr f => exact inv_of_event (e := .rr) (by decide) hs (modeInv_push _ (modeInv_startServing _))
  | td f =>
    have hmode : (takeEvent .td s).ModeInv := modeInv_congr hs.mode
    exact inv_of_event (e := .td) (by decide) hs (modeInv_push _ hmode)
  | br => exact inv_of_drained hs (modeInv_congr hs.mode)
  | st => exact inv_of_event (e := .st) (by decide) hs modeInv_of_idle
  | frame p => exact inv_parseBytes (frameBytes p) hs
  | get => exact inv_of_drained hs (modeInv_congr hs.mode)
  | pop b rest =>
    obtain ⟨hmode, hbound, hspan, hrx, hpending⟩ := hs
    exact ⟨hmode, hbound, hspan, hrx, hpending⟩
  | wr b room => exact inv_masterWrite b hs room
  | reset => exact inv_of_empty

theorem inv_execSeq {is : List Instr} {s t : State} (hs : s.Inv) (h : execSeq is s = .next t) : t.Inv := by
  induction is generalizing s with
  | nil => cases h; exact hs
  | cons i is ih =>
    obtain ⟨u, hu, hrest⟩ := execSeq_cons h
    exact ih (inv_exec hs hu) hrest

/-- Settles O59: a step is a sequence of operations on the same block, and every operation keeps the invariant. -/
theorem everyStepKeepsTheInvariant : Obligations.EveryStepKeepsTheInvariant := by
  unfold Obligations.EveryStepKeepsTheInvariant
  intro s t hs h
  obtain ⟨is, s', hsame, hrun⟩ := step_next h
  exact inv_execSeq (hsame.inv hs) hrun

/-- Settles O60: the state after reset is `Idle` with nothing waiting. -/
theorem resetMeetsTheInvariant : Obligations.ResetMeetsTheInvariant := by
  unfold Obligations.ResetMeetsTheInvariant
  exact inv_of_empty rfl rfl rfl rfl rfl

end Sys2Proof.Machine
end

section
/-! PROOF. Who writes what: the mode, the parser's state, the responder's state, the parameters. -/

namespace Sys2Proof.Machine

/-- The mode after an operation, from the mode before it (10_state.md R28). -/
def modeAfter : Instr → Mode → Mode
  | .rr _, _ => .serving
  | .st, _ | .reset, _ => .idle
  | .cc _, m | .td _, m | .br, m | .frame _, m | .get, m | .pop, m | .wr _, m => m

theorem exec_mode {i : Instr} {s t : State} (h : exec i s = .next t) : t.mode = modeAfter i s.mode := by
  cases execNext_of_exec h <;> simp [modeAfter]

/-- Settles O18: the mode after an operation is given by its constructor. -/
theorem onlyReadStopAndResetWriteMode : Obligations.OnlyReadStopAndResetWriteMode := by
  unfold Obligations.OnlyReadStopAndResetWriteMode
  intro i s t h
  rw [exec_mode h]
  refine ⟨?_, ?_, fun hrr hst hreset => ?_⟩
  · rintro ⟨f, rfl⟩
    rfl
  · rintro (rfl | rfl) <;> rfl
  · cases i with
    | rr f => exact absurd ⟨f, rfl⟩ hrr
    | st => exact absurd rfl hst
    | reset => exact absurd rfl hreset
    | cc | td | br | frame | get | pop | wr => rfl

/-- The responder and the bus environment leave the parser's state alone. -/
theorem exec_keeps_parser_state {i : Instr} {s t : State} (h : exec i s = .next t) (hi : i.mayWriteSnap = false) :
    t.snap = s.snap ∧ t.iab = s.iab ∧ t.badcnt = s.badcnt ∧ t.ovfcnt = s.ovfcnt := by
  cases execNext_of_exec h with
  | cc | frame | reset => cases hi
  | rr | td | br | st | get | pop | wr => simp

theorem exec_cfg {i : Instr} {s t : State} (h : exec i s = .next t) : t.cfg = s.cfg := by
  cases execNext_of_exec h <;> simp

/-- Settles O57: operation by operation, the laws of the shared operations say which fields stay. -/
theorem eachPieceOfStateHasOneWriter : Obligations.EachPieceOfStateHasOneWriter := by
  unfold Obligations.EachPieceOfStateHasOneWriter
  intro i s t h
  refine ⟨exec_keeps_parser_state h, fun hi => ?_, exec_cfg h⟩
  cases execNext_of_exec h with
  | cc | frame | pop | wr => simp
  | rr | td | br | st | get | reset => simp at hi

end Sys2Proof.Machine
end

section
/-! PROOF. What the diagnostic port shows, and the state after reset. -/

namespace Sys2Proof.Machine

theorem mode_bit (m : Mode) : m.bit = if m = .serving then 1 else 0 := by cases m <;> rfl

/-- A value that fits a counter is shown whole. -/
theorem toNat_ofNat_counter {k : Nat} (h : k ≤ 16) : (BitVec.ofNat 32 k).toNat = k := by
  rw [BitVec.toNat_ofNat, Nat.mod_eq_of_lt (by omega)]

/-- Settles O53: the four short registers are zero-extended and fit, the counters are shown as they are. -/
theorem diagnosticPortShowsTheRegisters : Obligations.DiagnosticPortShowsTheRegisters := by
  unfold Obligations.DiagnosticPortShowsTheRegisters
  intro s
  refine ⟨congrArg some (mode_bit s.mode), fun h => ⟨_, rfl, ?_⟩, fun h => ⟨_, rfl, ?_⟩, fun h => ⟨_, rfl, ?_⟩,
    rfl, rfl, rfl⟩
  · exact toNat_ofNat_counter (by omega)
  · exact toNat_ofNat_counter (by omega)
  · exact toNat_ofNat_counter h

/-- Settles O56: each value stands in the definition of the state after reset. -/
theorem resetStateHoldsTheDecidedValues : Obligations.ResetStateHoldsTheDecidedValues := by
  unfold Obligations.ResetStateHoldsTheDecidedValues
  exact ⟨rfl, rfl, rfl, rfl, rfl, rfl, rfl, rfl, rfl, rfl, rfl, rfl⟩

end Sys2Proof.Machine
end

section
/-! PROOF. What a step does with the first item of the environment's stream. -/

namespace Sys2Proof.Machine

/-! ### The decoder reads what the encoder writes -/

theorem decode_eventWord (e : Event) {f : FreeOperand} (hf : f.wf = true) :
    decode (eventWord e f) = .ok (e.instr f) := by
  rw [eventWord, decode, ofCode_code, ofPort_onPort f hf]

theorem decode_feed_of_payload {bs : List Byte} {p : Record} (h : framePayload bs = some p) :
    decode (.feed bs) = .ok (.frame p) := by
  rw [decode, h]

theorem decode_feed_of_noPayload {bs : List Byte} (h : framePayload bs = none) :
    decode (.feed bs) = .error .noFrame := by
  rw [decode, h]

theorem decode_encode {i : Instr} (hi : i.wf = true) : decode (encode i) = .ok i := by
  cases i with
  | rr f => exact decode_eventWord .rr hi
  | td f => exact decode_eventWord .td hi
  | br => exact decode_eventWord .br rfl
  | st => exact decode_eventWord .st rfl
  | frame p => exact decode_feed_of_payload ((framePayload_some _ _).mpr rfl)
  | cc | get | pop | wr | reset => rfl

/-! ### The patterns of the encoding run as the operations they stand for -/

theorem exec_frame_eq_execSeq (p : Record) (s : State) : exec (.frame p) s = execSeq ((frameBytes p).map .cc) s := by
  rw [exec_frame, execSeq_cc]

theorem exec_get_eq_execSeq (s : State) : exec .get s = execSeq [.wr cmdGet, .br] s := by
  cases h : rxHasRoom s with
  | false => simp [execSeq, exec, execGet, execWr, h]
  | true => simp [execSeq, exec, execGet, execWr, execBr, h]

/-! ### The next operation -/

theorem fetch_word {s : State} {w : PortWord} {rest : List Input} (h : s.inputs = .word w :: rest) :
    fetch s = .run w { s with inputs := rest, commitOld := none } := by
  rw [fetch, h]

theorem fetch_inside {s : State} {w : PortWord} {old : Record} {rest : List Input}
    (h : s.inputs = .inside w old :: rest) : fetch s = .run w { s with inputs := rest, commitOld := some old } := by
  rw [fetch, h]

theorem fetch_together {s : State} {b : Byte} {ev : PortWord} {rest : List Input}
    (h : s.inputs = .together b ev :: rest) : fetch s = splitTogether b ev rest s := by
  rw [fetch, h]

theorem fetch_addressed_own {s : State} {a : BitVec 7} {w : PortWord} {rest : List Input}
    (h : s.inputs = .addressed a w :: rest) (ha : a = busAddr) :
    fetch s = .run w { s with inputs := rest, commitOld := none } := by
  rw [fetch, h]
  exact if_pos ha

theorem fetch_addressed_other {s : State} {a : BitVec 7} {w : PortWord} {rest : List Input}
    (h : s.inputs = .addressed a w :: rest) (ha : a ≠ busAddr) :
    fetch s = .quiet { s with inputs := rest, commitOld := none } := by
  rw [fetch, h]
  exact if_neg ha

theorem step_of_quiet {s t : State} (h : fetch s = .quiet t) : step s = .next t := by
  rw [step, h]

theorem step_of_decoded {s t : State} {w : PortWord} {i : Instr} (h : fetch s = .run w t) (hi : decode w = .ok i) :
    step s = exec i t := by
  simp only [step, h, hi]

theorem step_of_undecoded {s t : State} {w : PortWord} {e : DecodeError} (h : fetch s = .run w t)
    (he : decode w = .error e) : step s = execSeq (operationsOf w) t := by
  simp only [step, h, he]

/-- A step depends on what is fetched and on nothing else. -/
theorem step_congr {s t : State} (h : fetch s = fetch t) : step s = step t := by
  rw [step, step, h]

/-- Bytes on the control channel are `CC` operations one by one, be they a frame or not (30_encoding.md R82). -/
theorem step_feed {s t : State} {bs : List Byte} (h : fetch s = .run (.feed bs) t) :
    step s = execSeq (bs.map .cc) t := by
  cases hp : framePayload bs with
  | none => exact step_of_undecoded h (decode_feed_of_noPayload hp)
  | some p =>
    rw [step_of_decoded h (decode_feed_of_payload hp), exec_frame_eq_execSeq, (framePayload_some bs p).mp hp]

/-- A byte on the bus does the same whether it is the command `0x10` or not (30_encoding.md R84). -/
theorem step_busw {s t : State} {b : Byte} (h : fetch s = .run (.busw b) t) : step s = execSeq [.wr b, .br] t := by
  by_cases hb : b = cmdGet
  · rw [step_of_decoded h (if_pos hb), exec_get_eq_execSeq, hb]
  · exact step_of_undecoded h (if_neg hb)

/-- Settles O4: the step on the word that is fetched, for each of the four kinds of word. -/
theorem stepRunsTheDecodedOperation : Obligations.StepRunsTheDecodedOperation := by
  unfold Obligations.StepRunsTheDecodedOperation
  intro s w rest hs
  have hw := fetch_word hs
  refine ⟨fun i hi => step_of_decoded hw hi, ?_, ?_, ?_⟩
  · rintro bs rfl
    exact step_feed hw
  · rintro b rfl
    exact step_busw hw
  · rintro rfl
    exact step_of_undecoded hw (e := .notAsserted) rfl

/-- Settles O5: the word in front is fetched, and decoding gives back the operation it encodes. -/
theorem stepRunsEveryEncodedOperation : Obligations.StepRunsEveryEncodedOperation := by
  unfold Obligations.StepRunsEveryEncodedOperation
  intro s i hi
  exact step_of_decoded (fetch_word (s := s.prependWord (encode i)) rfl) (decode_encode hi)

/-- Settles O8: to another address nothing is fetched, and to `BUS_ADDR` the same as without the address. -/
theorem otherBusAddressesDoNotReachTheBlock : Obligations.OtherBusAddressesDoNotReachTheBlock := by
  unfold Obligations.OtherBusAddressesDoNotReachTheBlock
  intro s a w rest hs
  refine ⟨fun ha => step_of_quiet (fetch_addressed_other hs ha), fun ha => step_congr ?_⟩
  rw [fetch_addressed_own hs ha, fetch_word rfl]

end Sys2Proof.Machine
end

section
/-! PROOF. The copy of the Snapshot at a Read-Requested: outside a `CC` operation, inside one, and at the same instant as one. -/

namespace Sys2Proof.Machine

/-! ### The copy -/

/-- Outside any `CC` operation, or with the Snapshot write indivisible, the copy is whole (20_memory.md R56). -/
theorem copySnapshot_whole {s : State} (h : s.commitOld = none ∨ s.cfg.snapWriteAtomic = true) :
    copySnapshot s = { s with pob := s.snap } := by
  unfold copySnapshot
  split
  · rename_i old hold
    exact if_pos (h.resolve_left (by simp [hold]))
  · rfl

/-- Inside a `CC` operation whose write can be seen half done, the copy is torn, and takes a free value. -/
theorem copySnapshot_torn {s : State} {old : Record} (hold : s.commitOld = some old)
    (ha : s.cfg.snapWriteAtomic = false) :
    copySnapshot s =
      { s with pob := Record.torn (Config.tornBytes s.freeIdx) old s.snap, freeIdx := s.freeIdx + 1 } := by
  simp [copySnapshot, hold, ha]

theorem tornByte_eq_or (mask : BitVec 7) (k : Nat) (old new : Byte) :
    tornByte mask k old new = old ∨ tornByte mask k old new = new := by
  unfold tornByte
  split
  · exact .inr rfl
  · exact .inl rfl

theorem torn_bytes_eq_or (mask : BitVec 7) (old new : Record) {k : Nat} (hk : k < 7) :
    (Record.torn mask old new).bytes[k]? = old.bytes[k]? ∨ (Record.torn mask old new).bytes[k]? = new.bytes[k]? := by
  interval_cases k <;>
    exact (tornByte_eq_or mask _ _ _).imp (congrArg some) (congrArg some)

/-- What a Read-Requested leaves when the copy is `p`, with `k` free values taken so far. -/
def servedFrom (f : FreeOperand) (p : Record) (k : Nat) (s : State) : State :=
  { s with
    pob := p
    mode := .serving
    cur := min 7 (freeCapacity f s)
    rem := 7 - min 7 (freeCapacity f s)
    txq := s.txq ++ p.bytes.take (min 7 (freeCapacity f s))
    pending := s.pending.erase .rr
    freeIdx := k }

theorem exec_rr_of_copy {s : State} {p : Record} {k : Nat}
    (h : copySnapshot (takeEvent .rr s) = { takeEvent .rr s with pob := p, freeIdx := k }) (f : FreeOperand) :
    exec (.rr f) s = .next (servedFrom f p k s) := by
  rw [exec_rr, h]
  simp [push, startServing, takeEvent, servedFrom]

theorem exec_rr_whole {s : State} (h : s.commitOld = none ∨ s.cfg.snapWriteAtomic = true) (f : FreeOperand) :
    exec (.rr f) s = .next (servedFrom f s.snap s.freeIdx s) :=
  exec_rr_of_copy (copySnapshot_whole h) f

theorem exec_rr_torn {s : State} {old : Record} (hold : s.commitOld = some old)
    (ha : s.cfg.snapWriteAtomic = false) (f : FreeOperand) :
    exec (.rr f) s =
      .next (servedFrom f (Record.torn (Config.tornBytes s.freeIdx) old s.snap) (s.freeIdx + 1) s) :=
  exec_rr_of_copy (copySnapshot_torn (s := takeEvent .rr s) hold ha) f

/-- Settles O12: the record is the torn one, each byte of which is the old or the new. -/
theorem tornReadRequestedResult : Obligations.TornReadRequestedResult := by
  unfold Obligations.TornReadRequestedResult
  intro f s old hold ha
  exact ⟨_, fun k hk => torn_bytes_eq_or _ _ _ hk, exec_rr_torn hold ha f⟩

/-! ### The parser does not look at the responder -/

/-- The parser's own state is the same. -/
structure SameParser (s t : State) : Prop where
  snap : t.snap = s.snap
  iab : t.iab = s.iab
  badcnt : t.badcnt = s.badcnt
  ovfcnt : t.ovfcnt = s.ovfcnt

theorem SameParser.trans {s t u : State} (h : SameParser s t) (h' : SameParser t u) : SameParser s u where
  snap := h'.snap.trans h.snap
  iab := h'.iab.trans h.iab
  badcnt := h'.badcnt.trans h.badcnt
  ovfcnt := h'.ovfcnt.trans h.ovfcnt

theorem SameBlock.sameParser {s t : State} (h : SameBlock s t) : SameParser s t :=
  ⟨h.snap, h.iab, h.badcnt, h.ovfcnt⟩

theorem SameParser.servedFrom {s t : State} (h : SameParser s t) (f : FreeOperand) (p : Record) (k : Nat) :
    SameParser s (servedFrom f p k t) :=
  ⟨h.snap, h.iab, h.badcnt, h.ovfcnt⟩

theorem SameParser.appendByte {s t : State} (h : SameParser s t) (b : Byte) :
    SameParser (appendByte b s) (appendByte b t) := by
  have hn : t.n = s.n := congrArg List.length h.iab
  constructor <;> simp [hn, h.snap, h.iab, h.badcnt, h.ovfcnt]

theorem SameParser.handleSpan {s t : State} (h : SameParser s t) (i j : Nat) :
    SameParser (handleSpan i j s) (handleSpan i j t) := by
  constructor <;> simp [h.snap, h.iab, h.badcnt, h.ovfcnt]

theorem SameParser.scan {s t : State} (h : SameParser s t) : SameParser (scan s) (scan t) := by
  unfold Machine.scan
  rw [h.iab]
  split
  · exact h
  · split
    · exact h
    · exact h.handleSpan _ _

theorem SameParser.parseByte {s t : State} (h : SameParser s t) (b : Byte) :
    SameParser (parseByte b s) (parseByte b t) :=
  (h.appendByte b).scan

/-! ### A byte and a Read-Requested at the same instant -/

theorem fetch_together_eventFirst {s : State} {b : Byte} {ev : PortWord} {rest : List Input}
    (h : s.inputs = .together b ev :: rest) (ha : s.cfg.snapWriteAtomic = true)
    (hfirst : Config.eventFirst s.freeIdx = true) :
    fetch s = .run ev { s with inputs := .word (.cc b) :: rest, commitOld := none, freeIdx := s.freeIdx + 1 } := by
  rw [fetch_together h, splitTogether, if_pos ha, if_pos hfirst, ccWord]

theorem fetch_together_byteFirst {s : State} {b : Byte} {ev : PortWord} {rest : List Input}
    (h : s.inputs = .together b ev :: rest) (ha : s.cfg.snapWriteAtomic = true)
    (hfirst : ¬ Config.eventFirst s.freeIdx = true) :
    fetch s = .run (.cc b) { s with inputs := .word ev :: rest, commitOld := none, freeIdx := s.freeIdx + 1 } := by
  rw [fetch_together h, splitTogether, if_pos ha, if_neg hfirst, ccWord]

theorem fetch_together_inside {s : State} {b : Byte} {ev : PortWord} {rest : List Input}
    (h : s.inputs = .together b ev :: rest) (ha : s.cfg.snapWriteAtomic = false) :
    fetch s = .run (.cc b) { s with inputs := .inside ev s.snap :: rest, commitOld := none } := by
  rw [fetch_together h, splitTogether, if_neg (by simp [ha]), ccWord]

/-- A step that runs a byte parses it, and leaves the responder's copy and mode alone. -/
theorem step_cc {s r : State} {b : Byte} (h : fetch s = .run (.cc b) r) :
    ∃ t, step s = .next t ∧ SameParser (parseByte b s) t ∧
      t.pob = s.pob ∧ t.mode = s.mode ∧ t.cfg = s.cfg ∧ t.inputs = r.inputs := by
  have hr := fetch_run_sameBlock h
  exact ⟨parseByte b r, step_of_decoded h rfl, hr.sameParser.parseByte b, by simp [hr.pob], by simp [hr.mode],
    by simp [hr.cfg], by simp⟩

/-- A step that runs a Read-Requested with a whole copy serves the Snapshot and leaves the parser's state alone. -/
theorem step_rr_whole {s r : State} {ev : PortWord} {f : FreeOperand} (h : fetch s = .run ev r)
    (hev : decode ev = .ok (.rr f)) (hwhole : r.commitOld = none ∨ r.cfg.snapWriteAtomic = true) :
    ∃ t, step s = .next t ∧ SameParser s t ∧ t.pob = s.snap ∧ t.mode = .serving ∧ t.inputs = r.inputs := by
  have hr := fetch_run_sameBlock h
  exact ⟨_, (step_of_decoded h hev).trans (exec_rr_whole hwhole f), hr.sameParser.servedFrom .., hr.snap, rfl, rfl⟩

/-- The same with a copy torn between the Snapshots before and after the `CC` operation it falls inside. -/
theorem step_rr_torn {s r : State} {ev : PortWord} {f : FreeOperand} {old : Record} (h : fetch s = .run ev r)
    (hev : decode ev = .ok (.rr f)) (hold : r.commitOld = some old) (ha : s.cfg.snapWriteAtomic = false) :
    ∃ t, step s = .next t ∧ SameParser s t ∧ (∃ mask, t.pob = Record.torn mask old s.snap) ∧ t.mode = .serving ∧
      t.inputs = r.inputs := by
  have hr := fetch_run_sameBlock h
  have hra : r.cfg.snapWriteAtomic = false := by rw [hr.cfg, ha]
  exact ⟨_, (step_of_decoded h hev).trans (exec_rr_torn hold hra f), hr.sameParser.servedFrom ..,
    ⟨_, congrArg (Record.torn _ old) hr.snap⟩, rfl, rfl⟩

/-- Settles O9: the event first copies the Snapshot from before the byte, the byte first the one it leaves. -/
theorem sameInstantCopyIsWholeOldOrWholeNew : Obligations.SameInstantCopyIsWholeOldOrWholeNew := by
  unfold Obligations.SameInstantCopyIsWholeOldOrWholeNew
  intro s b ev f rest hs hev ha
  by_cases hfirst : Config.eventFirst s.freeIdx = true
  · obtain ⟨m, hm, hsm, hpob, hmode, hinputs⟩ := step_rr_whole (fetch_together_eventFirst hs ha hfirst) hev (.inl rfl)
    obtain ⟨t, ht, hmt, hpobt, hmodet, -, hinputst⟩ := step_cc (fetch_word hinputs)
    obtain ⟨hsnap, hiab, hbad, hovf⟩ := (hsm.parseByte b).trans hmt
    exact ⟨m, t, _, hm, ht, exec_cc b s, hsnap, hiab, hbad, hovf, hmodet.trans hmode, hinputst,
      .inl (hpobt.trans hpob)⟩
  · obtain ⟨m, hm, hsm, -, -, -, hinputs⟩ := step_cc (fetch_together_byteFirst hs ha hfirst)
    obtain ⟨t, ht, hmt, hpob, hmode, hinputst⟩ := step_rr_whole (fetch_word hinputs) hev (.inl rfl)
    obtain ⟨hsnap, hiab, hbad, hovf⟩ := hsm.trans hmt
    exact ⟨m, t, _, hm, ht, exec_cc b s, hsnap, hiab, hbad, hovf, hmode, hinputst, .inr (hpob.trans hsm.snap)⟩

/-- Settles O10: the byte has run when the copy is made, with the Snapshot from before it still at hand. -/
theorem copyInsideACommitMixesByByte : Obligations.CopyInsideACommitMixesByByte := by
  unfold Obligations.CopyInsideACommitMixesByByte
  intro s b ev f rest hs hev ha
  obtain ⟨m, hm, hsm, -, -, hcfg, hinputs⟩ := step_cc (fetch_together_inside hs ha)
  have hma : m.cfg.snapWriteAtomic = false := by rw [hcfg, ha]
  obtain ⟨t, ht, hmt, ⟨mask, hpob⟩, hmode, hinputst⟩ := step_rr_torn (fetch_inside hinputs) hev rfl hma
  obtain ⟨hsnap, hiab, -, -⟩ := hsm.trans hmt
  refine ⟨m, t, _, hm, ht, exec_cc b s, hsnap, hiab, hmode, hinputst, fun k hk => ?_⟩
  rw [hpob, hsm.snap]
  exact torn_bytes_eq_or mask s.snap _ hk

end Sys2Proof.Machine
end

section
/-! PROOF. A transfer in flight is frozen: what every operation between a Read-Requested and the end of its transfer keeps. -/

namespace Sys2Proof.Machine

/-- In `s` a transfer of the record `p` is in flight, which began when the master had taken, or was to take from `TXQ`, the
bytes `before` (40_bus_responder.md R93). -/
structure Transfer (p : Record) (before : List Byte) (s : State) : Prop where
  pob : s.pob = p
  mode : s.mode = .serving
  progress : s.cur + s.rem = 7
  bytes : s.received ++ s.txq = before ++ p.bytes.take s.cur

/-- What leaves the responder and both ends of the transmit queue alone leaves the transfer alone. -/
theorem Transfer.congr {p : Record} {before : List Byte} {s t : State} (h : Transfer p before s)
    (hpob : t.pob = s.pob := by simp) (hmode : t.mode = s.mode := by simp) (hcur : t.cur = s.cur := by simp)
    (hrem : t.rem = s.rem := by simp) (hreceived : t.received = s.received := by simp)
    (htxq : t.txq = s.txq := by simp) : Transfer p before t where
  pob := hpob.trans h.pob
  mode := hmode.trans h.mode
  progress := by rw [hcur, hrem, h.progress]
  bytes := by rw [hreceived, htxq, hcur, h.bytes]

theorem Transfer.push {p : Record} {before : List Byte} {s : State} (h : Transfer p before s) (f : Nat) :
    Transfer p before (push f s) where
  pob := h.pob
  mode := h.mode
  progress := by
    have := h.progress
    rw [push_cur, push_rem]
    omega
  bytes := by
    rw [push_received, push_txq, push_cur, h.pob, ← List.append_assoc, h.bytes, List.append_assoc, ← List.take_add]

theorem Transfer.pop {p : Record} {before rest : List Byte} {b : Byte} {s : State} (h : Transfer p before s)
    (head : s.txq = b :: rest) : Transfer p before { s with txq := rest, received := s.received ++ [b] } where
  pob := h.pob
  mode := h.mode
  progress := h.progress
  bytes := by rw [← h.bytes, head, List.append_assoc, List.singleton_append]

theorem transfer_exec_rr {f : FreeOperand} {s t : State} (hwhole : s.commitOld = none ∨ s.cfg.snapWriteAtomic = true)
    (h : exec (.rr f) s = .next t) : Transfer s.snap (s.received ++ s.txq) t := by
  rw [exec_rr_whole hwhole] at h
  cases h
  exact ⟨rfl, rfl, Nat.add_sub_of_le (Nat.min_le_left ..), (List.append_assoc ..).symm⟩

theorem Transfer.exec {p : Record} {before : List Byte} {i : Instr} {s t : State} (hs : Transfer p before s)
    (hi : i.keepsTransfer = true) (h : exec i s = .next t) : Transfer p before t := by
  cases execNext_of_exec h with
  | rr | st | reset => cases hi
  | td f => exact hs.congr.push _
  | pop b rest head => exact hs.pop head
  | cc | br | frame | get | wr => exact hs.congr

theorem Transfer.execSeq {p : Record} {before : List Byte} {is : List Instr} {s t : State} (hs : Transfer p before s)
    (his : ∀ i ∈ is, i.keepsTransfer = true) (h : execSeq is s = .next t) : Transfer p before t := by
  induction is generalizing s with
  | nil => cases h; exact hs
  | cons i is ih =>
    obtain ⟨u, hu, hrest⟩ := execSeq_cons h
    obtain ⟨hi, his⟩ := List.forall_mem_cons.mp his
    exact ih (hs.exec hi hu) his hrest

/-- Settles O20: the Read-Requested begins the transfer, and each operation up to its end keeps it. -/
theorem transferInFlightIsFrozen : Obligations.TransferInFlightIsFrozen := by
  unfold Obligations.TransferInFlightIsFrozen
  intro s t f is hwhole his h
  obtain ⟨u, hrr, hrest⟩ := execSeq_cons h
  obtain ⟨hpob, hmode, hprogress, hbytes⟩ := (transfer_exec_rr hwhole hrr).execSeq his hrest
  exact ⟨hpob, hmode, hprogress, hbytes⟩

end Sys2Proof.Machine
end

section
/-! PROOF. The assembly buffer is first-in first-out, and the button mask is little-endian. -/

namespace Sys2Proof.Machine

theorem appended_suffix (b : Byte) (s : State) : appended b s <:+ s.iab ++ [b] := by
  obtain ⟨k, hk⟩ := appended_eq_drop_append b s
  rw [hk]
  exact (List.suffix_append_inj_of_length_eq rfl).mpr ⟨List.drop_suffix k s.iab, rfl⟩

/-- Settles O48: no span leaves the buffer as the append step made it, a span leaves what stands behind its end marker. -/
theorem bytesLeaveTheBufferFromTheFront : Obligations.BytesLeaveTheBufferFromTheFront := by
  unfold Obligations.BytesLeaveTheBufferFromTheFront
  intro b s t h
  rw [exec_cc] at h
  cases h
  obtain ⟨-, h⟩ | ⟨i, j, -, hj, h⟩ := parseByte_cases b s
  · rw [h, appendByte_iab_appended]
    exact ⟨appended_suffix b s, .inl rfl⟩
  · rw [h, handleSpan_iab, appendByte_iab_appended]
    obtain ⟨-, hend⟩ := endAt_of_findEnd hj
    exact ⟨(List.drop_suffix ..).trans (appended_suffix b s), .inr ⟨j, hend, rfl⟩⟩

/-- Settles O52: the low half of the mask is byte 0 and the high half is byte 1. -/
theorem buttonMaskIsLittleEndian : Obligations.ButtonMaskIsLittleEndian := by
  unfold Obligations.ButtonMaskIsLittleEndian
  refine ⟨fun r => ⟨?_, ?_⟩, rfl⟩
  · rw [Record.buttons, BitVec.extractLsb'_append_eq_right]
    rfl
  · rw [Record.buttons, BitVec.extractLsb'_append_eq_left]
    rfl

end Sys2Proof.Machine
end

section
/-! PROOF. The encoding: the decoder reads what the encoder writes, and what it reads was written so. -/

namespace Sys2Proof.Machine

/-- Settles O1: operation by operation, the decoder reads what the encoder writes. -/
theorem decodeOfEncodeIsTheOperation : Obligations.DecodeOfEncodeIsTheOperation := by
  unfold Obligations.DecodeOfEncodeIsTheOperation
  exact fun i hi => decode_encode hi

/-! ### What the decoder reads -/

theorem ofPort_wf (free : Option (BitVec 5)) : (FreeOperand.ofPort free).wf = true := by
  cases free with
  | none => rfl
  | some v => exact decide_eq_true v.isLt

theorem instr_wf {f : FreeOperand} (hf : f.wf = true) (e : Event) : (e.instr f).wf = true := by
  cases e with
  | rr | td => exact hf
  | br | st => rfl

/-- An event's word is its operation's encoding, save for what may stand on `tx_free` beside `BR` and `ST`, which do not
sample it (10_state.md R45). -/
theorem encode_instr_ofPort (e : Event) (free : Option (BitVec 5)) :
    encode (e.instr (FreeOperand.ofPort free)) = .ev e.code free ∨ ((e = .br ∨ e = .st) ∧ ∃ v, free = some v) := by
  cases e with
  | rr | td => exact .inl (congrArg (PortWord.ev _) (onPort_ofPort free))
  | br | st =>
    cases free with
    | none => exact .inl rfl
    | some v => exact .inr ⟨by simp, v, rfl⟩

/-- Everything the decoder can read as an operation, port by port. -/
inductive Decodes : PortWord → Instr → Prop
  | cc (b : Byte) : Decodes (.cc b) (.cc b)
  | frame (p : Record) : Decodes (.feed (frameBytes p)) (.frame p)
  | event (e : Event) (free : Option (BitVec 5)) : Decodes (.ev e.code free) (e.instr (.ofPort free))
  | get : Decodes (.busw cmdGet) .get
  | pop : Decodes .pop .pop
  | wr (b : Byte) : Decodes (.wr b) (.wr b)
  | reset : Decodes (.rst 1) .reset

theorem decodes_of_decode {w : PortWord} {i : Instr} (h : decode w = .ok i) : Decodes w i := by
  cases w with
  | cc b => cases h; exact .cc b
  | feed bs =>
    cases hp : framePayload bs with
    | none => rw [decode_feed_of_noPayload hp] at h; cases h
    | some p =>
      rw [decode_feed_of_payload hp] at h
      cases h
      rw [(framePayload_some bs p).mp hp]
      exact .frame p
  | ev c free =>
    cases h
    have hread := Decodes.event (.ofCode c) free
    rwa [code_ofCode] at hread
  | busw b =>
    rw [decode] at h
    split at h
    next hb => cases h; exact hb ▸ .get
    next => cases h
  | pop => cases h; exact .pop
  | wr b => cases h; exact .wr b
  | rst l =>
    rw [decode] at h
    split at h
    next hl => cases h; exact hl ▸ .reset
    next => cases h

theorem Decodes.wf {w : PortWord} {i : Instr} (h : Decodes w i) : i.wf = true := by
  cases h with
  | event e free => exact instr_wf (ofPort_wf free) e
  | cc | frame | get | pop | wr | reset => rfl

theorem Decodes.encode_eq {w : PortWord} {i : Instr} (h : Decodes w i) :
    encode i = w ∨ (i = .br ∧ ∃ free, w = .ev 0b10 (some free)) ∨ (i = .st ∧ ∃ free, w = .ev 0b11 (some free)) := by
  cases h with
  | event e free =>
    obtain henc | ⟨rfl | rfl, v, rfl⟩ := encode_instr_ofPort e free
    · exact .inl henc
    · exact .inr (.inl ⟨rfl, v, rfl⟩)
    · exact .inr (.inr ⟨rfl, v, rfl⟩)
  | cc | frame | get | pop | wr | reset => exact .inl rfl

/-- Everything the decoder reads as no row of the opcode table (30_encoding.md R75, R80). -/
theorem decode_error_cases {w : PortWord} {e : DecodeError} (h : decode w = .error e) :
    w = .rst 0 ∨ (∃ bs, w = .feed bs ∧ framePayload bs = none) ∨ ∃ b, b ≠ cmdGet ∧ w = .busw b := by
  cases w with
  | cc | ev | pop | wr => cases h
  | feed bs =>
    cases hp : framePayload bs with
    | none => exact .inr (.inl ⟨bs, rfl, hp⟩)
    | some p => rw [decode_feed_of_payload hp] at h; cases h
  | busw b =>
    refine .inr (.inr ⟨b, ?_, rfl⟩)
    rintro rfl
    cases h
  | rst l =>
    obtain rfl | rfl := BitVec.eq_zero_or_eq_one l
    · exact .inl rfl
    · cases h

/-- Settles O2: what is read stands among the ways of reading, and bytes with a payload are the frame of that payload. -/
theorem decodedWordsAreEncodings : Obligations.DecodedWordsAreEncodings := by
  unfold Obligations.DecodedWordsAreEncodings
  refine ⟨fun w i h => ?_, fun w e h => ?_⟩
  · have hread := decodes_of_decode h
    exact ⟨hread.wf, hread.encode_eq⟩
  · refine (decode_error_cases h).imp_right (Or.imp_left ?_)
    rintro ⟨bs, hw, hnone⟩
    refine ⟨bs, hw, fun p hbs => ?_⟩
    rw [(framePayload_some bs p).mpr hbs] at hnone
    cases hnone

/-- Settles O3: each word is one the decoder's definition reads so. -/
theorem wordsOfTheOpcodeTableDecode : Obligations.WordsOfTheOpcodeTableDecode := by
  unfold Obligations.WordsOfTheOpcodeTableDecode
  exact ⟨rfl, rfl, rfl, rfl, rfl, rfl, rfl, rfl, rfl, rfl⟩

/-- Settles O41: `FRAME` parses the eleven bytes that `CC` takes one by one, and `GET` is `WR` and `BR`. -/
theorem patternsAreTheirExpansions : Obligations.PatternsAreTheirExpansions := by
  unfold Obligations.PatternsAreTheirExpansions
  exact ⟨exec_frame_eq_execSeq, exec_get_eq_execSeq⟩

end Sys2Proof.Machine
end

section
/-! PROOF. The free capacity: any that is at least what remains to be pushed has the same effect. -/

namespace Sys2Proof.Machine

/-- With room for all that remains, a push depends on nothing else of the free capacity. -/
theorem push_eq_of_rem_le {f g : Nat} {s : State} (hf : s.rem ≤ f) (hg : s.rem ≤ g) : push f s = push g s := by
  rw [push, push, Nat.min_eq_left hf, Nat.min_eq_left hg]

/-- A written value of 7 or more, or above the depth of the queue, offers at least 7. -/
theorem seven_le_freeCapacity {g : Nat} {s : State} (h : 7 ≤ g ∨ s.cfg.txqDepth < g) :
    7 ≤ freeCapacity (.port g) s := by
  by_cases hg : g ≤ s.cfg.txqDepth
  · rw [freeCapacity_port_le hg]
    exact h.resolve_right (Nat.not_lt.mpr hg)
  · exact (freeCapacity_port_gt (Nat.lt_of_not_le hg)).ge

/-- Settles O24: both values offer at least 7, and at most 7 bytes remain in either operation. -/
theorem largeFreeCapacitiesAreAlike : Obligations.LargeFreeCapacitiesAreAlike := by
  unfold Obligations.LargeFreeCapacitiesAreAlike
  intro s f g hf hg hrem
  have hf := seven_le_freeCapacity (s := s) (.inl hf)
  have hg := seven_le_freeCapacity hg
  refine ⟨?_, ?_, fun h hh => freeCapacity_port_le hh⟩
  · rw [exec_rr, exec_rr, push_eq_of_rem_le hf hg]
  · rw [exec_td, exec_td, push_eq_of_rem_le (s := takeEvent .td s) (hrem.trans hf) (hrem.trans hg)]

end Sys2Proof.Machine
end

section
/-! PROOF. Bytes the master writes: counted by the `BR` that drains them, whatever their values. -/

namespace Sys2Proof.Machine

theorem drainLoop_eq (bs : List Byte) (s : State) :
    drainLoop bs s = { s with rxq := [], rxcnt := (drainLoop bs s).rxcnt } := by
  induction bs generalizing s with
  | nil => rfl
  | cons b bs ih => exact ih _

/-- The drain empties the queue and counts what was in it, and nothing else changes. -/
theorem drainRxq_eq (s : State) :
    drainRxq s = { s with rxq := [], rxcnt := s.rxcnt + BitVec.ofNat 32 s.rxq.length } := by
  rw [← drainRxq_rxcnt, drainRxq]
  exact drainLoop_eq s.rxq s

/-- An event that was made pending and then taken is as one that was taken alone. -/
theorem takeEvent_makePending (e : Event) (s : State) : takeEvent e (makePending e s) = takeEvent e s := by
  unfold makePending
  split
  · rfl
  · rename_i h
    simp only [takeEvent, List.erase_append_right _ h, List.erase_cons_head, List.append_nil, List.erase_of_not_mem h]

/-- A byte is written, and the bytes waiting are drained with it: how many they are is all that is left of them. -/
def counted (s : State) : State :=
  { s with
    rxq := []
    rxcnt := s.rxcnt + BitVec.ofNat 32 (s.rxq.length + 1)
    pending := s.pending.erase .br }

theorem drainRxq_masterWrite (b : Byte) (s : State) :
    drainRxq (takeEvent .br (masterWrite b s)) = counted s := by
  rw [masterWrite, takeEvent_makePending, drainRxq_eq, takeEvent_rxq, List.length_append, List.length_singleton]
  rfl

theorem exec_wr_of_room {s : State} (h : s.rxq.length < s.cfg.rxqDepth) (b : Byte) :
    exec (.wr b) s = .next (masterWrite b s) := if_pos (decide_eq_true h)

theorem exec_wr_of_full {s : State} (h : ¬ s.rxq.length < s.cfg.rxqDepth) (b : Byte) :
    exec (.wr b) s = .fault .wrHasNoStep := if_neg (by simp [rxHasRoom, h])

theorem execSeq_wr_br_of_room {s : State} (h : s.rxq.length < s.cfg.rxqDepth) (b : Byte) :
    execSeq [.wr b, .br] s = .next (counted s) := by
  rw [execSeq_cons_next (exec_wr_of_room h b), execSeq_cons_next (exec_br _), execSeq_nil, drainRxq_masterWrite]

theorem execSeq_wr_br_of_full {s : State} (h : ¬ s.rxq.length < s.cfg.rxqDepth) (b : Byte) :
    execSeq [.wr b, .br] s = .fault .wrHasNoStep := by
  rw [execSeq, exec_wr_of_full h b]

/-- A byte on the bus has the effect of the command byte (30_encoding.md R84). -/
theorem execSeq_wr_br_eq_exec_get (b : Byte) (s : State) : execSeq [.wr b, .br] s = exec .get s := by
  rw [exec_get_eq_execSeq]
  by_cases h : s.rxq.length < s.cfg.rxqDepth
  · rw [execSeq_wr_br_of_room h, execSeq_wr_br_of_room h]
  · rw [execSeq_wr_br_of_full h, execSeq_wr_br_of_full h]

theorem exec_br_congr_length {s : State} {bs : List Byte} (h : bs.length = s.rxq.length) :
    exec .br { s with rxq := bs } = exec .br s := by
  rw [exec_br, exec_br, drainRxq_eq, drainRxq_eq, takeEvent_rxq, takeEvent_rxq, h]
  rfl

/-- Settles O26: a drain counts the bytes it empties out, and any byte on the bus does what the command byte does. -/
theorem writtenBytesAreOnlyCounted : Obligations.WrittenBytesAreOnlyCounted := by
  unfold Obligations.WrittenBytesAreOnlyCounted
  refine ⟨fun s bs h => exec_br_congr_length h, fun s b c => ?_⟩
  have hstep (x : Byte) : step (s.prependWord (.busw x)) = exec .get { s with commitOld := none } := by
    rw [step_busw (fetch_word (s := s.prependWord (.busw x)) rfl), execSeq_wr_br_eq_exec_get]
    rfl
  rw [hstep b, hstep c]

/-- Settles O31: `GET` is a write and its drain, which count the byte and leave no event, or the write has no step. -/
theorem getCommandIsCounted : Obligations.GetCommandIsCounted := by
  unfold Obligations.GetCommandIsCounted
  intro s
  rw [exec_get_eq_execSeq]
  exact ⟨fun h => execSeq_wr_br_of_room h cmdGet, fun h => execSeq_wr_br_of_full h cmdGet⟩

end Sys2Proof.Machine
end

section
/-! PROOF. A span of length 7 holds a record. -/

namespace Sys2Proof.Machine

theorem ofBytes_of_length {bs : List Byte} (h : bs.length = 7) : ∃ r, Record.ofBytes bs = some r ∧ r.bytes = bs := by
  match bs, h with
  | [b0, b1, b2, b3, b4, b5, b6], _ => exact ⟨⟨b0, b1, b2, b3, b4, b5, b6⟩, rfl, rfl⟩

/-- The payload is as long as the markers say when the end marker stands in the buffer. -/
theorem length_payload {i j : Nat} {l : List Byte} (h : findEnd i l = some j) :
    (payload i j l).length = payloadLength i j := by
  obtain ⟨-, hend⟩ := endAt_of_findEnd h
  have := hend.lt
  rw [payload, payloadLength, List.length_take, List.length_drop]
  omega

/-- Byte `k` of the payload is the one `k` places behind the start marker. -/
theorem getElem?_payload {i j k : Nat} (hk : k < payloadLength i j) (l : List Byte) :
    (payload i j l)[k]? = l[i + 2 + k]? := by
  rw [payload, List.getElem?_take_of_lt hk, List.getElem?_drop]

/-- Settles O38: the end marker stands in the buffer, so all seven bytes before it do. -/
theorem completeSpanHoldsARecord : Obligations.CompleteSpanHoldsARecord := by
  unfold Obligations.CompleteSpanHoldsARecord
  intro l i j _ hj hlen
  obtain ⟨r, hr, hbytes⟩ := ofBytes_of_length ((length_payload hj).trans hlen)
  refine ⟨r, hr, fun k hk => ?_⟩
  rw [hbytes, getElem?_payload (hlen ▸ hk)]

end Sys2Proof.Machine
end

section
/-! PROOF. A full poll: the command byte is counted, the stop empties `TXQ`, the read pushes the Snapshot whole, seven `POP`s
take it. -/

namespace Sys2Proof.Machine

/-- What a stop with the flush leaves behind (40_bus_responder.md R98, 42_bus_queues.md R134). -/
def afterStop (s : State) : State :=
  { s with mode := .idle, cur := 0, rem := 0, txq := [], pending := s.pending.erase .st }

theorem exec_st_of_flush {s : State} (h : s.cfg.txqFlushOnStop = true) : exec .st s = .next (afterStop s) :=
  (exec_st s).trans (congrArg Host.Outcome.next (if_pos h))

theorem exec_pop_of_txq {s : State} {b : Byte} {rest : List Byte} (h : s.txq = b :: rest) :
    exec .pop s = .next { s with txq := rest, received := s.received ++ [b] } := by
  simp only [exec, execPop, h]

/-- As many `POP`s as there are bytes queued take them all, in order. -/
theorem execSeq_pops {s : State} {bs : List Byte} (h : s.txq = bs) :
    execSeq (List.replicate bs.length .pop) s = .next { s with txq := [], received := s.received ++ bs } := by
  induction bs generalizing s with
  | nil =>
    have hs : s = { s with txq := [] } := by rw [← h]
    rw [List.append_nil, ← hs]
    rfl
  | cons b bs ih =>
    rw [List.length_cons, List.replicate_succ, execSeq_cons_next (exec_pop_of_txq h), ih rfl, List.append_assoc,
      List.singleton_append]

/-- What the master's reading of the whole reply leaves behind. -/
def afterRead (s : State) : State :=
  { s with
    pob := s.snap
    mode := .serving
    cur := 7
    rem := 0
    txq := []
    pending := s.pending.erase .rr
    received := s.received ++ s.snap.bytes }

/-- A read from an empty `TXQ` with room for the whole reply gives the master the Snapshot (40_bus_responder.md R99). -/
theorem execSeq_read {s : State} (hwhole : s.commitOld = none ∨ s.cfg.snapWriteAtomic = true) (htxq : s.txq = [])
    (hdepth : 7 ≤ s.cfg.txqDepth) :
    execSeq (.rr .queue :: List.replicate 7 .pop) s = .next (afterRead s) := by
  have hfree : min 7 (freeCapacity .queue s) = 7 := by
    rw [freeCapacity, txFree, htxq]
    exact Nat.min_eq_left hdepth
  have hqueued : (servedFrom .queue s.snap s.freeIdx s).txq = s.snap.bytes := by
    rw [servedFrom, hfree, htxq]
    rfl
  rw [execSeq_cons_next (exec_rr_whole hwhole .queue)]
  refine (execSeq_pops hqueued).trans ?_
  rw [servedFrom, hfree]
  rfl

/-- Settles O22: the write and its drain, the stop, the read and the stop, one after the other. -/
theorem pollReturnsTheSnapshot : Obligations.PollReturnsTheSnapshot := by
  unfold Obligations.PollReturnsTheSnapshot
  intro s hold hdepth hroom hflush
  have hwrite := execSeq_wr_br_of_room hroom 0x10
  have hread : execSeq (.rr .queue :: List.replicate 7 .pop) (afterStop (counted s)) =
      .next (afterRead (afterStop (counted s))) := execSeq_read (.inl hold) rfl hdepth
  have hstop : exec .st (counted s) = .next (afterStop (counted s)) := exec_st_of_flush hflush
  have hend : exec .st (afterRead (afterStop (counted s))) = .next (afterStop (afterRead (afterStop (counted s)))) :=
    exec_st_of_flush hflush
  refine ⟨afterStop (afterRead (afterStop (counted s))), ?_, rfl, rfl, rfl, rfl, rfl, rfl, rfl⟩
  calc execSeq ([.wr 0x10, .br] ++ .st :: (.rr .queue :: List.replicate 7 .pop ++ [.st])) s
    _ = execSeq (.st :: (.rr .queue :: List.replicate 7 .pop ++ [.st])) (counted s) := execSeq_append hwrite
    _ = execSeq (.rr .queue :: List.replicate 7 .pop ++ [.st]) (afterStop (counted s)) := execSeq_cons_next hstop
    _ = execSeq [.st] (afterRead (afterStop (counted s))) := execSeq_append hread
    _ = .next (afterStop (afterRead (afterStop (counted s)))) := execSeq_cons_next hend

end Sys2Proof.Machine
end

section
/-! PROOF. The push step: it is the rule's loop, and what it does to the transmit queue and the two registers. -/

namespace Sys2Proof.Machine

@[simp] theorem length_bytes (p : Record) : p.bytes.length = 7 := rfl

/-- With nothing remaining or no room there is nothing to push. -/
theorem push_eq_self {f : Nat} {s : State} (h : s.rem = 0 ∨ f = 0) : push f s = s := by
  have hk : min s.rem f = 0 := Nat.min_eq_zero_iff.mpr h
  rw [push, hk, List.take_zero, List.append_nil]
  rfl

/-- All turns of the rule's loop at once. -/
theorem pushLoop_eq (k : Nat) (s : State) :
    pushLoop k s = { s with
      txq := s.txq ++ (s.pob.bytes.drop s.cur).take k
      cur := s.cur + k
      rem := s.rem - k } := by
  induction k generalizing s with
  | zero => rw [List.take_zero, List.append_nil]; rfl
  | succ k ih =>
    have htxq : (pushOne s).txq ++ (s.pob.bytes.drop (s.cur + 1)).take k =
        s.txq ++ (s.pob.bytes.drop s.cur).take (k + 1) := by
      rw [pushOne_txq, List.append_assoc, Nat.add_comm k 1, List.take_add, List.drop_drop]
    rw [pushLoop, ih, pushOne_pob, pushOne_cur, htxq, pushOne_rem, Nat.add_assoc, Nat.sub_sub, Nat.add_comm 1 k]
    rfl

theorem push_eq_pushLoop (f : Nat) (s : State) : push f s = pushLoop (min s.rem f) s := by
  rw [pushLoop_eq, push]

/-- The cursor moves as far as the remainder shrinks. -/
theorem push_cur_add_rem (f : Nat) (s : State) : (push f s).cur + (push f s).rem = s.cur + s.rem := by
  rw [push_cur, push_rem]
  omega

/-- What a push puts into `TXQ` is taken from what `POB` still owes (40_bus_responder.md R94). -/
theorem push_txq_append_left (f : Nat) (s : State) :
    (push f s).txq ++ (push f s).pob.bytes.drop (push f s).cur = s.txq ++ s.pob.bytes.drop s.cur := by
  rw [push_txq, push_pob, push_cur, List.append_assoc, ← List.drop_drop, List.take_append_drop]

/-- Inside the record as many bytes are pushed as the registers move. -/
theorem length_push_txq {s : State} (h : s.cur + s.rem ≤ 7) (f : Nat) :
    (push f s).txq.length = s.txq.length + min s.rem f := by
  rw [push_txq, List.length_append, List.length_take, List.length_drop, length_bytes]
  omega

/-- Settles O14: the loop's turns add up to the one append, whose bytes stand in the record because `cur + rem <= 7`. -/
theorem pushIsTheRepeatLoop : Obligations.PushIsTheRepeatLoop := by
  unfold Obligations.PushIsTheRepeatLoop
  intro f s h
  refine ⟨push_eq_pushLoop f s, push_cur f s, push_rem f s, push_cur_add_rem f s, length_push_txq h f, by omega, fun m hm => ?_,
    fun m hm => ?_, push_eq_self⟩
  · rw [push_txq, List.getElem?_append_left hm]
  · rw [push_txq, List.getElem?_append_right (Nat.le_add_right ..), Nat.add_sub_cancel_left,
      List.getElem?_take_of_lt hm, List.getElem?_drop]

/-- Settles O15: the drain has room and bytes left, so it pushes at least one of those still owed. -/
theorem owedDrainMakesProgress : Obligations.OwedDrainMakesProgress := by
  unfold Obligations.OwedDrainMakesProgress
  rintro s ⟨hmode, hrem, hroom⟩ hseven
  refine ⟨_, exec_td .queue s, hmode, rfl, ?_, (push_cur_add_rem _ (takeEvent .td s)).trans hseven,
    push_txq_append_left _ (takeEvent .td s)⟩
  rw [push_rem, takeEvent_rem, freeCapacity]
  omega

end Sys2Proof.Machine
end

section
/-! PROOF. The whole next state of each of the four events. -/

namespace Sys2Proof.Machine

/-- Settles O11: the copy is whole, and the push begins at the record's first byte. -/
theorem readRequestedResult : Obligations.ReadRequestedResult := by
  unfold Obligations.ReadRequestedResult
  intro f s h
  exact exec_rr_whole h f

/-- Settles O13: a drain is its push, and a push with nothing remaining does nothing. -/
theorem transmitQueueDrainedResult : Obligations.TransmitQueueDrainedResult := by
  unfold Obligations.TransmitQueueDrainedResult
  intro f s
  refine ⟨exec_td f s, fun h => ?_⟩
  rw [exec_td, push_eq_self (s := takeEvent .td s) (.inl h)]
  rfl

/-- Settles O16: the drain of the receive queue, after the event is taken. -/
theorem byteReceivedResult : Obligations.ByteReceivedResult := by
  unfold Obligations.ByteReceivedResult
  intro s
  rw [exec_br, drainRxq_eq]
  rfl

theorem flushTxq_eq (s : State) :
    flushTxq s = { s with txq := if s.cfg.txqFlushOnStop = true then [] else s.txq } := by
  rw [← flushTxq_txq]
  unfold flushTxq
  split <;> rfl

/-- Settles O17: the flush of the transmit queue, after the event is taken and the responder is `Idle`. -/
theorem transactionStoppedResult : Obligations.TransactionStoppedResult := by
  unfold Obligations.TransactionStoppedResult
  intro s
  rw [exec_st, flushTxq_eq]
  rfl

end Sys2Proof.Machine
end

section
/-! PROOF. Drains after a Read-Requested: how far the free capacities offered take the cursor. -/

namespace Sys2Proof.Machine

/-- A written free capacity depends on the depth of the queue only. -/
theorem freeCapacity_port_congr {s t : State} (h : t.cfg = s.cfg) (g : Nat) :
    freeCapacity (.port g) t = freeCapacity (.port g) s := by
  rw [freeCapacity, freeCapacity, h]

/-- In a transfer the cursor moves by what is offered, up to the end of the record. -/
theorem push_cur_eq_min {s : State} (h : s.cur + s.rem = 7) (f : Nat) : (push f s).cur = min 7 (s.cur + f) := by
  rw [push_cur]
  omega

/-- Drain events one after the other never stop; the cursor ends where the capacities they offer take it. These are the same
in every state `r` with the parameters of `s`. -/
theorem execSeq_drains (gs : List Nat) {r s : State} (h : s.cur + s.rem = 7) (hcfg : s.cfg = r.cfg) :
    ∃ t, execSeq (gs.map fun g => .td (.port g)) s = .next t ∧ t.received = s.received ∧
      t.cur = min 7 (s.cur + (gs.map fun g => freeCapacity (.port g) r).sum) := by
  induction gs generalizing s with
  | nil => exact ⟨s, rfl, rfl, (Nat.min_eq_right (h ▸ Nat.le_add_right ..)).symm⟩
  | cons g gs ih =>
    have hs : (takeEvent .td s).cur + (takeEvent .td s).rem = 7 := h
    have hpushed := (push_cur_add_rem (freeCapacity (.port g) r) (takeEvent .td s)).trans hs
    have htd : exec (.td (.port g)) s = .next (push (freeCapacity (.port g) r) (takeEvent .td s)) := by
      rw [exec_td, freeCapacity_port_congr hcfg]
    obtain ⟨t, ht, hreceived, hcur⟩ := ih hpushed hcfg
    refine ⟨t, (execSeq_cons_next htd).trans ht, hreceived, ?_⟩
    rw [hcur, push_cur_eq_min hs, takeEvent_cur, List.map_cons, List.sum_cons]
    omega

/-- Settles O19: the transfer invariant says which bytes a cursor stands for, and the drains say where the cursor ends. -/
theorem drainsPushThePrefixOnce : Obligations.DrainsPushThePrefixOnce := by
  unfold Obligations.DrainsPushThePrefixOnce
  intro s f fs hold offered
  have hrr := exec_rr_whole (.inl hold) (.port f)
  have htransfer := transfer_exec_rr (.inl hold) hrr
  obtain ⟨t, ht, hreceived, hcur⟩ := execSeq_drains (r := s) fs htransfer.progress rfl
  have hdrains : ∀ i ∈ fs.map fun g => Instr.td (.port g), i.keepsTransfer = true := by simp [Instr.keepsTransfer]
  obtain ⟨hpob, -, hprogress, hbytes⟩ := htransfer.execSeq hdrains ht
  have hfirst : (servedFrom (.port f) s.snap s.freeIdx s).cur = min 7 (freeCapacity (.port f) s) := rfl
  have hend : t.cur = min 7 offered := by
    rw [hcur, hfirst]
    omega
  refine ⟨t, (execSeq_cons_next hrr).trans ht, hpob, hend, by omega, ?_⟩
  rw [hreceived, hend, List.append_assoc] at hbytes
  exact List.append_cancel_left hbytes

end Sys2Proof.Machine
end

section
/-! PROOF. The shapes of a poll: whatever stands before the read leaves the Snapshot and the empty `TXQ` as they are. -/

namespace Sys2Proof.Machine

/-- From `s` the read is still to come: nothing the master will see of it has changed. -/
structure BeforeRead (s t : State) : Prop where
  snap : t.snap = s.snap
  cfg : t.cfg = s.cfg
  received : t.received = s.received
  commitOld : t.commitOld = none
  txq : t.txq = []

theorem execSeq_prelude_read {pre : List Instr} {s u : State} (hpre : execSeq pre s = .next u) (hu : BeforeRead s u)
    (hdepth : 7 ≤ s.cfg.txqDepth) :
    ∃ t, execSeq (pre ++ [.rr .queue] ++ List.replicate 7 .pop) s = .next t ∧
      t.received = s.received ++ s.snap.bytes ∧ t.txq = [] ∧ t.mode = .serving ∧ t.cur = 7 := by
  refine ⟨afterRead u, ?_, by rw [← hu.received, ← hu.snap]; rfl, rfl, rfl, rfl⟩
  rw [List.append_assoc, execSeq_append hpre]
  exact execSeq_read (.inl hu.commitOld) hu.txq (hu.cfg ▸ hdepth)

theorem BeforeRead.stop {s t : State} (h : BeforeRead s t) :
    BeforeRead s (flushTxq (stopServing (takeEvent .st t))) := by
  constructor <;> simp [h.snap, h.cfg, h.received, h.commitOld, h.txq]

/-- Settles O23: each shape ends in the same read, and what stands before the read keeps what the read depends on. -/
theorem pollShapesGiveTheSameReply : Obligations.PollShapesGiveTheSameReply := by
  unfold Obligations.PollShapesGiveTheSameReply
  intro s hold htxq hdepth hroom pre hpre
  have hwrite : execSeq [.wr 0x10, .br] s = .next (counted s) := execSeq_wr_br_of_room hroom 0x10
  have hcounted : BeforeRead s (counted s) := ⟨rfl, rfl, rfl, hold, htxq⟩
  simp only [List.mem_cons, List.not_mem_nil, or_false] at hpre
  obtain rfl | rfl | rfl := hpre
  · have hstop := (execSeq_append (js := [.st]) hwrite).trans (execSeq_cons_next (exec_st (counted s)))
    exact execSeq_prelude_read hstop hcounted.stop hdepth
  · exact execSeq_prelude_read hwrite hcounted hdepth
  · exact execSeq_prelude_read (execSeq_nil s) ⟨rfl, rfl, rfl, hold, htxq⟩ hdepth

end Sys2Proof.Machine
end

section
/-! PROOF. The responder does not look at data: two states that differ only in the bytes they hold stay alike in all that
steers it. -/

namespace Sys2Proof.Machine

/-- All that steers the responder is the same; of `TXQ` that is the number of bytes in it (40_bus_responder.md R100). -/
structure SameControl (s t : State) : Prop where
  mode : s.mode = t.mode
  cur : s.cur = t.cur
  rem : s.rem = t.rem
  rxcnt : s.rxcnt = t.rxcnt
  rxq : s.rxq = t.rxq
  queued : s.txq.length = t.txq.length
  pending : s.pending = t.pending
  cfg : s.cfg = t.cfg

theorem SameControl.freeCapacity {s t : State} (h : SameControl s t) (f : FreeOperand) :
    freeCapacity f s = freeCapacity f t := by
  cases f with
  | port n => exact freeCapacity_port_congr h.cfg n
  | queue => rw [Machine.freeCapacity, Machine.freeCapacity, txFree, txFree, h.cfg, h.queued]

theorem SameControl.takeEvent {s t : State} (h : SameControl s t) (e : Event) :
    SameControl (takeEvent e s) (takeEvent e t) :=
  { h with pending := congrArg (List.erase · e) h.pending }

theorem SameControl.copySnapshot {s t : State} (h : SameControl s t) :
    SameControl (copySnapshot s) (copySnapshot t) := by
  constructor <;> simp [h.mode, h.cur, h.rem, h.rxcnt, h.rxq, h.queued, h.pending, h.cfg]

theorem SameControl.startServing {s t : State} (h : SameControl s t) :
    SameControl (startServing s) (startServing t) :=
  { h with mode := rfl, cur := rfl, rem := rfl }

theorem SameControl.stopServing {s t : State} (h : SameControl s t) : SameControl (stopServing s) (stopServing t) :=
  { h with mode := rfl, cur := rfl, rem := rfl }

theorem SameControl.push {s t : State} (h : SameControl s t) {f g : Nat} (hfg : f = g) :
    SameControl (push f s) (push g t) where
  __ := h
  cur := by rw [push_cur, push_cur, h.cur, h.rem, hfg]
  rem := by rw [push_rem, push_rem, h.rem, hfg]
  queued := by simp [h.queued, h.cur, h.rem, hfg]

theorem SameControl.drainRxq {s t : State} (h : SameControl s t) : SameControl (drainRxq s) (drainRxq t) := by
  rw [drainRxq_eq, drainRxq_eq]
  exact { h with rxq := rfl, rxcnt := by rw [h.rxcnt, h.rxq] }

theorem SameControl.flushTxq {s t : State} (h : SameControl s t) : SameControl (flushTxq s) (flushTxq t) := by
  rw [flushTxq_eq, flushTxq_eq]
  exact { h with queued := by simp only [apply_ite List.length, h.cfg, h.queued] }

/-- An event keeps two states alike in all that steers the responder. -/
theorem SameControl.exec_event {s t : State} (h : SameControl s t) (e : Event) (f : FreeOperand) :
    ∃ s' t', exec (e.instr f) s = .next s' ∧ exec (e.instr f) t = .next t' ∧ SameControl s' t' := by
  cases e with
  | rr => exact ⟨_, _, exec_rr f s, exec_rr f t, (h.takeEvent .rr).copySnapshot.startServing.push (h.freeCapacity f)⟩
  | td => exact ⟨_, _, exec_td f s, exec_td f t, (h.takeEvent .td).push (h.freeCapacity f)⟩
  | br => exact ⟨_, _, exec_br s, exec_br t, (h.takeEvent .br).drainRxq⟩
  | st => exact ⟨_, _, exec_st s, exec_st t, (h.takeEvent .st).stopServing.flushTxq⟩

/-- Settles O25: other bytes in the three places leave all that steers the responder the same, and so does the event. -/
theorem snapshotBytesNeverSteerTheResponder : Obligations.SnapshotBytesNeverSteerTheResponder := by
  unfold Obligations.SnapshotBytesNeverSteerTheResponder
  intro e f s r p q hq
  have hsame : SameControl s { s with snap := r, pob := p, txq := q } := ⟨rfl, rfl, rfl, rfl, rfl, hq.symm, rfl, rfl⟩
  obtain ⟨t, u, ht, hu, hmode, hcur, hrem, hrxcnt, hrxq, hqueued, hpending, -⟩ := hsame.exec_event e f
  exact ⟨t, u, ht, hu, hmode, hcur, hrem, hrxcnt, hrxq, hqueued, hpending⟩

end Sys2Proof.Machine
end

section
/-! PROOF. The parser's two scans: the least start marker, and the least end marker behind it. -/

namespace Sys2Proof.Machine

theorem findEnd_eq_some_iff (i j : Nat) (l : List Byte) :
    findEnd i l = some j ↔ (i + 2 ≤ j ∧ EndAt l j) ∧ ∀ k, i + 2 ≤ k → k < j → ¬ EndAt l k := by
  rw [findEnd, Option.map_eq_some_iff]
  constructor
  · rintro ⟨m, hm, rfl⟩
    obtain ⟨hat, hleast⟩ := (findPair_some ..).mp hm
    refine ⟨⟨Nat.le_add_left .., ?_⟩, fun k hik hkm hk => hleast (k - (i + 2)) (by omega) ?_⟩
    · rwa [pairAt_drop, Nat.add_comm] at hat
    · rwa [pairAt_drop, Nat.add_sub_of_le hik]
  · rintro ⟨⟨hij, hat⟩, hleast⟩
    refine ⟨j - (i + 2), (findPair_some ..).mpr ⟨?_, fun k hk hp => hleast (i + 2 + k) (by omega) (by omega) ?_⟩,
      Nat.sub_add_cancel hij⟩
    · rwa [pairAt_drop, Nat.add_sub_of_le hij]
    · rwa [pairAt_drop] at hp

theorem findEnd_eq_none_iff (i : Nat) (l : List Byte) : findEnd i l = none ↔ ∀ j, i + 2 ≤ j → ¬ EndAt l j := by
  refine ⟨fun h j hij => not_endAt_of_findEnd_none h hij, fun h => ?_⟩
  rw [findEnd, Option.map_eq_none_iff, findPair_none]
  exact fun k hk => h (i + 2 + k) (Nat.le_add_right ..) ((pairAt_drop ..).mp hk)

/-- A first byte that does not begin the pair only shifts the scan by one. -/
theorem findPair_cons_of_ne {a x : Byte} (h : x ≠ a) (b : Byte) (l : List Byte) :
    findPair a b (x :: l) = (findPair a b l).map (· + 1) := by
  cases l with
  | nil => rfl
  | cons y l => rw [findPair, if_neg fun hxy => h hxy.1]

/-- From where a pair stands, the list is the pair and what stands behind it. -/
theorem PairAt.drop_eq {a b : Byte} {l : List Byte} {k : Nat} (h : PairAt a b l k) :
    l.drop k = a :: b :: l.drop (k + 2) := by
  obtain ⟨h0, h1⟩ := h
  rw [List.drop_eq_getElem?_toList_append, h0, List.drop_eq_getElem?_toList_append, h1]
  rfl

/-- Settles O33: the scan answers the least index of the pair, and a pair has two bytes inside the list. -/
theorem findStartIsTheLeastIndex : Obligations.FindStartIsTheLeastIndex := by
  unfold Obligations.FindStartIsTheLeastIndex
  refine fun l => ⟨fun i => (findPair_some ..).trans (and_congr_left fun _ => ?_), findPair_none ..⟩
  exact ⟨fun hat => ⟨hat.lt, hat⟩, fun ⟨_, hat⟩ => hat⟩

/-- Settles O34: the scan of what stands behind the start marker, with its indices shifted back. -/
theorem findEndIsTheLeastIndexAfterTheStart : Obligations.FindEndIsTheLeastIndexAfterTheStart := by
  unfold Obligations.FindEndIsTheLeastIndexAfterTheStart
  refine fun l i => ⟨fun j => (findEnd_eq_some_iff i j l).trans (and_congr_left fun _ => ?_), findEnd_eq_none_iff i l⟩
  exact ⟨fun ⟨hij, hat⟩ => ⟨hij, hat.lt, hat⟩, fun ⟨hij, _, hat⟩ => ⟨hij, hat⟩⟩

/-- Settles O35: neither byte of the start marker begins an end marker, so the scan passes over both. -/
theorem scanFromTheStartFindsTheSameEnd : Obligations.ScanFromTheStartFindsTheSameEnd := by
  unfold Obligations.ScanFromTheStartFindsTheSameEnd
  intro l i h0 h1
  rw [PairAt.drop_eq ⟨h0, h1⟩, findPair_cons_of_ne (by decide), findPair_cons_of_ne (by decide), Option.map_map,
    Option.map_map]
  exact Option.map_congr fun k _ => by simp only [Function.comp_apply]; omega

end Sys2Proof.Machine
end

section
/-! PROOF. The handling of one byte: what it appends, and what a complete span does. -/

namespace Sys2Proof.Machine

/-- The append step changes the buffer and, when it was full, the overflow counter. -/
theorem appendByte_eq (b : Byte) (s : State) :
    appendByte b s = { s with iab := appended b s, ovfcnt := if s.n = 16 then s.ovfcnt + 1 else s.ovfcnt } := by
  unfold appendByte appended
  split <;> rfl

theorem startAt_of_findStart {l : List Byte} {i : Nat} (h : findStart l = some i) : StartAt l i :=
  ((findPair_some ..).mp h).1

theorem parseByte_of_noSpan {b : Byte} {s : State} (h : NoSpan (appended b s)) : parseByte b s = appendByte b s := by
  obtain ⟨-, hp⟩ | ⟨i, j, hi, hj, -⟩ := parseByte_cases b s
  · exact hp
  · obtain ⟨hij, hend⟩ := endAt_of_findEnd hj
    exact absurd (h i j (startAt_of_findStart hi) hend) (by omega)

theorem parseByte_of_span {b : Byte} {s : State} {i j : Nat} (hi : findStart (appended b s) = some i)
    (hj : findEnd i (appended b s) = some j) : parseByte b s = handleSpan i j (appendByte b s) := by
  rw [parseByte, scan, appendByte_iab_appended, hi]
  dsimp only
  rw [hj]

theorem handleSpan_of_seven {i j : Nat} {s : State} {r : Record} (hlen : payloadLength i j = 7)
    (hr : r.bytes = payload i j s.iab) : handleSpan i j s = { s with snap := r, iab := s.iab.drop (j + 2) } := by
  have hof : Record.ofBytes (payload i j s.iab) = some r := by rw [← hr]; rfl
  rw [handleSpan, if_pos hlen, commit, hof]
  rfl

theorem handleSpan_of_ne_seven {i j : Nat} (hlen : payloadLength i j ≠ 7) (s : State) :
    handleSpan i j s = { s with badcnt := s.badcnt + 1, iab := s.iab.drop (j + 2) } := by
  rw [handleSpan, if_neg hlen]
  rfl

/-- Settles O36: without a span the handling is the append step alone, and that has its two cases. -/
theorem byteWithoutASpanIsOnlyAppended : Obligations.ByteWithoutASpanIsOnlyAppended := by
  unfold Obligations.ByteWithoutASpanIsOnlyAppended
  intro b s h
  rw [exec_cc, parseByte_of_noSpan h, appendByte]
  exact ⟨fun hn => by rw [if_neg hn.ne]; rfl, fun hn => by rw [if_pos hn]; rfl⟩

/-- Settles O37: the span's payload is the seven bytes of the record, which the Snapshot takes. -/
theorem spanOfSevenIsCommitted : Obligations.SpanOfSevenIsCommitted := by
  unfold Obligations.SpanOfSevenIsCommitted
  intro b s i j r hi hj hij hr
  have hlen : payloadLength i j = 7 := by rw [payloadLength]; omega
  have hpay : r.bytes = payload i j (appendByte b s).iab := by rw [appendByte_iab_appended, payload, hlen, hr]
  rw [exec_cc, parseByte_of_span hi hj, handleSpan_of_seven hlen hpay, appendByte_eq]

/-- Settles O39: a span of another length only counts. -/
theorem spanOfAnotherLengthIsRejected : Obligations.SpanOfAnotherLengthIsRejected := by
  unfold Obligations.SpanOfAnotherLengthIsRejected
  intro b s i j hi hj hij
  have hlen : payloadLength i j ≠ 7 := by rw [payloadLength]; omega
  rw [exec_cc, parseByte_of_span hi hj, handleSpan_of_ne_seven hlen, appendByte_eq]

/-- Settles O40: a byte, and eleven bytes, have one next state, and the parser writes none of these fields. -/
theorem parserTakesEveryByteAndKeepsOut : Obligations.ParserTakesEveryByteAndKeepsOut := by
  unfold Obligations.ParserTakesEveryByteAndKeepsOut
  rintro i s (⟨b, rfl⟩ | ⟨p, rfl⟩)
  · exact ⟨parseByte b s, exec_cc b s, by simp⟩
  · exact ⟨parseBytes (frameBytes p) s, exec_frame p s, by simp⟩

/-- Settles O46: a span that was handled ends with the byte just appended, so nothing stands behind it. -/
theorem handledSpanEmptiesTheBuffer : Obligations.HandledSpanEmptiesTheBuffer := by
  unfold Obligations.HandledSpanEmptiesTheBuffer
  intro b s t hs ht
  rw [exec_cc] at ht
  cases ht
  refine ⟨parseByte_noSpan b hs, ?_⟩
  obtain ⟨-, h⟩ | ⟨i, j, hi, hj, h⟩ := parseByte_cases b s
  · exact .inr (by rw [h]; exact ⟨appendByte_iab_appended b s, appendByte_snap b s, appendByte_badcnt b s⟩)
  · obtain ⟨hij, hend⟩ := endAt_of_findEnd hj
    rw [h, handleSpan_iab, appendByte_iab_appended]
    exact .inl (drop_appended_of_span hs (startAt_of_findStart hi) hend hij)

/-- Settles O47: the two markers take four of the sixteen places. -/
theorem payloadLengthIsAtMostTwelve : Obligations.PayloadLengthIsAtMostTwelve := by
  unfold Obligations.PayloadLengthIsAtMostTwelve
  intro l i j hl _ hj
  refine ⟨rfl, length_payload hj, ?_⟩
  have := (endAt_of_findEnd hj).2.lt
  rw [payloadLength]
  omega

end Sys2Proof.Machine
end

section
/-! PROOF. Bytes one after the other that complete no span: the buffer slides over them. -/

namespace Sys2Proof.Machine

/-- The latest sixteen bytes of a stream. -/
def latest (l : List Byte) : List Byte := l.drop (l.length - 16)

theorem length_latest (l : List Byte) : (latest l).length = min l.length 16 := by
  rw [latest, List.length_drop]
  omega

theorem latest_latest_append (l m : List Byte) : latest (latest l ++ m) = latest (l ++ m) := by
  have hdrop : latest l ++ m = (l ++ m).drop (l.length - 16) := by
    rw [latest, List.drop_append_of_le_length (Nat.sub_le ..)]
  rw [latest, hdrop, List.drop_drop, latest, List.length_drop, List.length_append]
  congr 1
  omega

theorem PairAt.append_right {a b : Byte} {l : List Byte} {i : Nat} (h : PairAt a b l i) (m : List Byte) :
    PairAt a b (l ++ m) i := by
  have := h.lt
  rwa [PairAt, List.getElem?_append_left (by omega), List.getElem?_append_left this]

theorem noSpan_of_append {l m : List Byte} (h : NoSpan (l ++ m)) : NoSpan l := fun i j hi hj =>
  h i j (hi.append_right m) (hj.append_right m)

theorem parseBytes_append (bs cs : List Byte) (s : State) : parseBytes (bs ++ cs) s = parseBytes cs (parseBytes bs s) := by
  induction bs generalizing s with
  | nil => rfl
  | cons b bs ih => exact ih (parseByte b s)

/-- The bytes went through the buffer and no span was handled: the latest sixteen stay, the others are counted. -/
def buffered (bs : List Byte) (s : State) : State :=
  { s with
    iab := latest (s.iab ++ bs)
    ovfcnt := s.ovfcnt + BitVec.ofNat 32 ((s.iab ++ bs).length - 16) }

theorem buffered_n (bs : List Byte) (s : State) : (buffered bs s).n ≤ 16 := by
  rw [State.n, buffered, length_latest]
  exact Nat.min_le_right ..

/-- While the buffer has room for them all, the bytes are only appended. -/
theorem buffered_of_room {bs : List Byte} {s : State} (h : s.n + bs.length ≤ 16) :
    buffered bs s = { s with iab := s.iab ++ bs } := by
  have h0 : (s.iab ++ bs).length - 16 = 0 := by rw [List.length_append]; exact Nat.sub_eq_zero_of_le h
  rw [buffered, latest, h0, List.drop_zero, BitVec.add_zero]

theorem buffered_append (bs cs : List Byte) (s : State) : buffered (bs ++ cs) s = buffered cs (buffered bs s) := by
  have hiab : latest (s.iab ++ (bs ++ cs)) = latest (latest (s.iab ++ bs) ++ cs) := by
    rw [latest_latest_append, List.append_assoc]
  have hlost : (s.iab ++ (bs ++ cs)).length - 16
      = ((s.iab ++ bs).length - 16) + ((latest (s.iab ++ bs) ++ cs).length - 16) := by
    simp only [List.length_append, length_latest]
    omega
  simp only [buffered, hiab, hlost, BitVec.ofNat_add, BitVec.add_assoc]

/-- In a buffer of at most sixteen bytes the append step slides by what does not fit. -/
theorem appendByte_eq_buffered (b : Byte) {s : State} (h : s.n ≤ 16) : appendByte b s = buffered [b] s := by
  by_cases hfull : s.n = 16
  · have hiab : s.iab.length = 16 := hfull
    have hlost : (s.iab ++ [b]).length - 16 = 1 := by rw [List.length_append, hiab, List.length_singleton]
    rw [appendByte, if_pos hfull, buffered, latest, hlost, List.drop_append_of_le_length (by omega)]
    rfl
  · rw [appendByte, if_neg hfull, buffered_of_room (by rw [List.length_singleton]; omega)]
    rfl

theorem appended_eq_latest (b : Byte) {s : State} (h : s.n ≤ 16) : appended b s = latest (s.iab ++ [b]) := by
  rw [← appendByte_iab_appended, appendByte_eq_buffered b h, buffered]

theorem parseBytes_of_noSpan {bs : List Byte} {s : State} (hn : s.n ≤ 16) (h : NoSpan (s.iab ++ bs)) :
    parseBytes bs s = buffered bs s := by
  induction bs generalizing s with
  | nil => rw [buffered_of_room (bs := []) hn, List.append_nil]; rfl
  | cons b bs ih =>
    rw [← List.singleton_append, ← List.append_assoc] at h
    have hspan : NoSpan (appended b s) := by
      rw [appended_eq_latest b hn]
      exact noSpan_drop (noSpan_of_append h) _
    have hb : parseByte b s = buffered [b] s := by rw [parseByte_of_noSpan hspan, appendByte_eq_buffered b hn]
    have hrest : NoSpan ((buffered [b] s).iab ++ bs) := by
      rw [buffered, latest, ← List.drop_append_of_le_length (Nat.sub_le ..)]
      exact noSpan_drop h _
    calc parseBytes (b :: bs) s
      _ = parseBytes bs (buffered [b] s) := by rw [parseBytes, hb]
      _ = buffered bs (buffered [b] s) := ih (buffered_n ..) hrest
      _ = buffered (b :: bs) s := (buffered_append [b] bs s).symm

/-- Settles O45: by induction over the bytes, each of which slides the buffer by one place once it is full. -/
theorem bufferHoldsTheLatestBytes : Obligations.BufferHoldsTheLatestBytes := by
  unfold Obligations.BufferHoldsTheLatestBytes
  intro s bs hn h
  rw [execSeq_cc, parseBytes_of_noSpan hn h]
  rfl

end Sys2Proof.Machine
end

section
/-! PROOF. Where a pair can stand in a stream that has one at a known place: the markers around a payload. -/

namespace Sys2Proof.Machine

variable {a b : Byte} {l : List Byte}

/-- Bytes that are not the pair's second one complete no pair. -/
theorem noPair_append_of_notMem (h : ∀ i, ¬ PairAt a b l i) {m : List Byte} (hb : b ∉ m) (i : Nat) :
    ¬ PairAt a b (l ++ m) i := by
  intro hp
  by_cases hi : i + 1 < l.length
  · exact h i (hp.of_append hi)
  · obtain ⟨-, h1⟩ := hp
    rw [List.getElem?_append_right (by omega)] at h1
    exact hb (List.mem_of_getElem? h1)

/-- Behind a stream without the pair, the pair stands no earlier than the byte that can begin it. -/
theorem le_of_pairAt_append (hab : b ≠ a) (h : ∀ i, ¬ PairAt a b l i) {m : List Byte} {i : Nat}
    (hp : PairAt a b (l ++ a :: m) i) : l.length ≤ i := by
  by_contra hi
  rw [List.append_cons] at hp
  exact noPair_append_of_notMem h (by simpa using hab) i (hp.of_append (by simp; omega))

theorem findPair_append (hab : b ≠ a) (h : ∀ i, ¬ PairAt a b l i) (m : List Byte) :
    findPair a b (l ++ a :: b :: m) = some l.length := by
  refine (findPair_some ..).mpr ⟨by simp [PairAt], fun k hk hp => ?_⟩
  exact absurd (le_of_pairAt_append hab h hp) (by omega)

theorem noStart_drop (h : NoStart l) (k : Nat) : NoStart (l.drop k) := fun i hi => h (k + i) ((pairAt_drop ..).mp hi)

/-- The first start marker leaves an end marker the most room, and behind it there is none. -/
theorem noSpan_append_start (h : NoStart l) {q : List Byte} (hq : NoEnd q) : NoSpan (l ++ start0 :: start1 :: q) := by
  intro i j hi hj
  have hli : l.length ≤ i := le_of_pairAt_append (by decide) h hi
  by_contra hij
  have hdrop : (l ++ start0 :: start1 :: q).drop (l.length + 2) = q := by simp
  rw [← hdrop] at hq
  refine hq (j - (l.length + 2)) ((pairAt_drop ..).mpr ?_)
  rwa [Nat.add_sub_of_le (by omega)]

theorem findStart_append (h : NoStart l) (m : List Byte) : findStart (l ++ start0 :: start1 :: m) = some l.length :=
  findPair_append (by decide) h m

theorem findEnd_append (l : List Byte) {q : List Byte} (hq : NoEnd q) (m : List Byte) :
    findEnd l.length (l ++ start0 :: start1 :: (q ++ end0 :: end1 :: m)) = some (l.length + 2 + q.length) := by
  have hdrop : (l ++ start0 :: start1 :: (q ++ end0 :: end1 :: m)).drop (l.length + 2) = q ++ end0 :: end1 :: m := by simp
  rw [findEnd, hdrop, findPair_append (by decide) hq, Option.map_some, Nat.add_comm]

end Sys2Proof.Machine
end

section
/-! PROOF. A payload between markers, byte by byte: accepted, rejected, cut short, or too long to be seen. -/

namespace Sys2Proof.Machine

/-- A payload between a start marker and an end marker. -/
def framed (q : List Byte) : List Byte := start0 :: start1 :: (q ++ [end0, end1])

/-- The same without its last byte. -/
def unclosed (q : List Byte) : List Byte := start0 :: start1 :: (q ++ [end0])

theorem framed_eq_append (q : List Byte) : framed q = unclosed q ++ [end1] := by simp [framed, unclosed]

theorem length_framed (q : List Byte) : (framed q).length = q.length + 4 := by simp [framed]

/-- All but the last byte of a frame is buffered: the span is not complete before. -/
theorem parseBytes_framed {s : State} {q : List Byte} (hs : NoStart s.iab) (hn : s.n ≤ 16) (hq : NoEnd q) :
    parseBytes (framed q) s = parseByte end1 (buffered (unclosed q) s) := by
  have hspan : NoSpan (s.iab ++ unclosed q) := noSpan_append_start hs (noPair_append_of_notMem hq (by decide))
  rw [framed_eq_append, parseBytes_append, parseBytes_of_noSpan hn hspan]
  rfl

theorem appendByte_unclosed (q : List Byte) (s : State) :
    appendByte end1 (buffered (unclosed q) s) = buffered (framed q) s := by
  rw [appendByte_eq_buffered _ (buffered_n ..), ← buffered_append, framed_eq_append]

/-- What the scans see at the last byte of a frame. -/
theorem appended_unclosed (q : List Byte) (s : State) :
    appended end1 (buffered (unclosed q) s) = latest (s.iab ++ framed q) := by
  rw [← appendByte_iab_appended, appendByte_unclosed, buffered]

/-- A frame of at most sixteen bytes is the tail of the buffer. -/
theorem latest_append_framed (l : List Byte) {q : List Byte} (hq : q.length ≤ 12) :
    ∃ k, latest (l ++ framed q) = l.drop k ++ framed q := by
  have hle : (l ++ framed q).length - 16 ≤ l.length := by
    rw [List.length_append, length_framed]
    omega
  exact ⟨_, List.drop_append_of_le_length hle⟩

/-- The last byte of a frame completes the span between its own markers, whatever stands before them. -/
theorem parseBytes_framed_eq_handleSpan {s : State} {q : List Byte} (hs : NoStart s.iab) (hn : s.n ≤ 16)
    (hlen : q.length ≤ 12) (hq : NoEnd q) :
    ∃ i, parseBytes (framed q) s = handleSpan i (i + 2 + q.length) (buffered (framed q) s) ∧
      payload i (i + 2 + q.length) (buffered (framed q) s).iab = q ∧
      (buffered (framed q) s).iab.drop (i + 2 + q.length + 2) = [] := by
  obtain ⟨k, hk⟩ := latest_append_framed s.iab hlen
  have hiab : (buffered (framed q) s).iab = s.iab.drop k ++ framed q := hk
  have happ : appended end1 (buffered (unclosed q) s) = s.iab.drop k ++ framed q := (appended_unclosed q s).trans hk
  refine ⟨(s.iab.drop k).length, ?_, ?_, ?_⟩
  · have hi : findStart (appended end1 (buffered (unclosed q) s)) = some (s.iab.drop k).length :=
      happ ▸ findStart_append (noStart_drop hs k) _
    have hj : findEnd (s.iab.drop k).length (appended end1 (buffered (unclosed q) s))
        = some ((s.iab.drop k).length + 2 + q.length) := happ ▸ findEnd_append _ hq []
    rw [parseBytes_framed hs hn hq, parseByte_of_span hi hj, appendByte_unclosed]
  · rw [hiab, payload, payloadLength, ← List.drop_drop, List.drop_left, Nat.add_sub_cancel_left]
    exact List.take_left
  · rw [hiab, List.drop_eq_nil_iff, List.length_append, length_framed]
    omega

/-- A frame of seven payload bytes is accepted. -/
theorem parseBytes_framed_of_seven {s : State} {p : Record} (hs : NoStart s.iab) (hn : s.n ≤ 16) (hp : NoEnd p.bytes) :
    parseBytes (framed p.bytes) s =
      { s with snap := p, iab := [], ovfcnt := s.ovfcnt + BitVec.ofNat 32 (s.n + 11 - 16) } := by
  obtain ⟨i, hspan, hpay, hrest⟩ := parseBytes_framed_eq_handleSpan hs hn (by simp) hp
  rw [hspan, handleSpan_of_seven (by simp [payloadLength]) hpay.symm, hrest, buffered, List.length_append, length_framed]
  rfl

/-- A frame of a payload of this length was rejected, and the overflow that its bytes caused is counted. -/
def afterReject (len : Nat) (s : State) : State :=
  { s with
    iab := []
    badcnt := s.badcnt + 1
    ovfcnt := s.ovfcnt + BitVec.ofNat 32 (s.n + (len + 4) - 16) }

/-- A frame of another length is rejected. -/
theorem parseBytes_framed_of_ne_seven {s : State} {q : List Byte} (hs : NoStart s.iab) (hn : s.n ≤ 16)
    (hlen : q.length ≤ 12) (hne : q.length ≠ 7) (hq : NoEnd q) :
    parseBytes (framed q) s = afterReject q.length s := by
  obtain ⟨i, hspan, hpay, hrest⟩ := parseBytes_framed_eq_handleSpan hs hn hlen hq
  rw [hspan, handleSpan_of_ne_seven (by simpa [payloadLength] using hne), hrest, buffered, List.length_append, length_framed]
  rfl

theorem frameBytes_eq_framed (p : Record) : frameBytes p = framed p.bytes := rfl

/-- Settles O42: the frame's last byte completes a span of seven, and the span ends the buffer. -/
theorem frameIsAccepted : Obligations.FrameIsAccepted := by
  unfold Obligations.FrameIsAccepted
  intro s p hs hn hp
  rw [exec_frame, frameBytes_eq_framed, parseBytes_framed_of_seven hs hn hp]

/-- Settles O43: the last byte completes a span of another length. -/
theorem payloadOfAnotherLengthIsDropped : Obligations.PayloadOfAnotherLengthIsDropped := by
  unfold Obligations.PayloadOfAnotherLengthIsDropped
  intro s q hs hn hlen hne hq
  refine ⟨_, execSeq_cc (framed q) s, ?_⟩
  rw [parseBytes_framed_of_ne_seven hs hn hlen hne hq]
  exact ⟨rfl, rfl, rfl⟩

/-- Settles O44: the first frame empties the buffer, so the second is accepted from there and loses no byte. -/
theorem sameFrameTwiceIsIdempotent : Obligations.SameFrameTwiceIsIdempotent := by
  unfold Obligations.SameFrameTwiceIsIdempotent
  intro s p hs hn hp
  refine ⟨_, _, frameIsAccepted s p hs hn hp, frameIsAccepted _ p (not_pairAt_nil _ _) (Nat.zero_le _) hp, rfl, ?_⟩
  simp [State.n]

/-! ### A payload that holds an end marker -/

/-- A list with a pair is what stands before it, the pair, and what stands behind it. -/
theorem PairAt.eq_append {a b : Byte} {l : List Byte} {k : Nat} (h : PairAt a b l k) :
    l = l.take k ++ a :: b :: l.drop (k + 2) := by
  rw [← h.drop_eq, List.take_append_drop]

theorem not_pairAt_take {a b : Byte} {l : List Byte} {k : Nat} (h : ∀ m < k, ¬ PairAt a b l m) (i : Nat) :
    ¬ PairAt a b (l.take k) i := by
  intro hp
  have hik := hp.lt
  rw [List.length_take] at hik
  refine h i (by omega) ?_
  rwa [PairAt, List.getElem?_take_of_lt (by omega), List.getElem?_take_of_lt (by omega)] at hp

/-- A frame whose payload has its first end marker at `k` is a shorter frame, rejected, and a tail fed to an empty buffer. -/
theorem parseBytes_frame_cut {s : State} {p : Record} {k : Nat} (hs : NoStart s.iab) (hn : s.n ≤ 16)
    (hk : EndAt p.bytes k) (hleast : ∀ m < k, ¬ EndAt p.bytes m) :
    parseBytes (frameBytes p) s = parseBytes (p.bytes.drop (k + 2) ++ [end0, end1]) (afterReject k s) := by
  have hlt : k + 1 < 7 := hk.lt
  have hlen : (p.bytes.take k).length = k := by rw [List.length_take, length_bytes]; omega
  have hframe : frameBytes p = framed (p.bytes.take k) ++ (p.bytes.drop (k + 2) ++ [end0, end1]) := by
    rw [frameBytes_eq_framed, framed]
    conv_lhs => rw [hk.eq_append]
    simp [framed]
  rw [hframe, parseBytes_append, parseBytes_framed_of_ne_seven hs hn (by omega) (by omega) (not_pairAt_take hleast), hlen]

/-- Fewer than eleven bytes hold no span of seven: the byte is only appended, or a span is rejected. -/
theorem parseByte_of_short {s : State} (b : Byte) (h : s.n < 10) :
    (parseByte b s).n ≤ s.n + 1 ∧ (parseByte b s).snap = s.snap ∧
      ∃ c ≤ 1, (parseByte b s).badcnt = s.badcnt + BitVec.ofNat 32 c := by
  have hlen : (appended b s).length ≤ s.n + 1 := by
    simpa [State.n] using (appended_suffix b s).length_le
  obtain ⟨-, hp⟩ | ⟨i, j, -, hj, hp⟩ := parseByte_cases b s
  · rw [hp, State.n, appendByte_iab_appended]
    exact ⟨hlen, appendByte_snap b s, 0, Nat.zero_le _, by simp⟩
  · have hjlen := (endAt_of_findEnd hj).2.lt
    rw [hp, State.n, handleSpan_iab, appendByte_iab_appended, List.length_drop,
      handleSpan_of_ne_seven (by rw [payloadLength]; omega)]
    exact ⟨by omega, appendByte_snap b s, 1, le_refl 1, by simp⟩

theorem parseBytes_of_short {s : State} {bs : List Byte} (h : s.n + bs.length ≤ 10) :
    (parseBytes bs s).snap = s.snap ∧ ∃ c ≤ bs.length, (parseBytes bs s).badcnt = s.badcnt + BitVec.ofNat 32 c := by
  induction bs generalizing s with
  | nil => exact ⟨rfl, 0, le_refl 0, (BitVec.add_zero _).symm⟩
  | cons b bs ih =>
    rw [List.length_cons] at h ⊢
    obtain ⟨hn, hsnap, c, hc, hbad⟩ := parseByte_of_short b (s := s) (by omega)
    obtain ⟨hsnap', c', hc', hbad'⟩ := ih (s := parseByte b s) (by omega)
    exact ⟨hsnap'.trans hsnap, c + c', by omega, by rw [parseBytes, hbad', hbad, BitVec.ofNat_add, BitVec.add_assoc]⟩

/-- A counter that advanced at least once and less than a whole turn is another value. -/
theorem counter_add_ne {c : Counter} {k : Nat} (hpos : 0 < k) (hlt : k < 2 ^ 32) : c + BitVec.ofNat 32 k ≠ c := by
  intro h
  have := congrArg BitVec.toNat h
  rw [toNat_counter_add_ofNat] at this
  have := c.isLt
  omega

theorem length_tail_le (p : Record) (k : Nat) : (p.bytes.drop (k + 2) ++ [end0, end1]).length ≤ 7 := by
  rw [List.length_append, List.length_drop, length_bytes]
  simp

/-- What is left behind a cut frame commits nothing, and it cannot bring the counter round to its old value. -/
theorem parseBytes_tail (s : State) (p : Record) (k : Nat) :
    (parseBytes (p.bytes.drop (k + 2) ++ [end0, end1]) (afterReject k s)).snap = s.snap ∧
      (parseBytes (p.bytes.drop (k + 2) ++ [end0, end1]) (afterReject k s)).badcnt ≠ s.badcnt := by
  have hlen := length_tail_le p k
  obtain ⟨hsnap, c, hc, hbad⟩ := parseBytes_of_short (s := afterReject k s)
    ((Nat.zero_add _).trans_le (hlen.trans (by decide)))
  have hsum : (afterReject k s).badcnt + BitVec.ofNat 32 c = s.badcnt + BitVec.ofNat 32 (1 + c) := by
    rw [BitVec.ofNat_add, ← BitVec.add_assoc]
    rfl
  refine ⟨hsnap, ?_⟩
  rw [hbad, hsum]
  exact counter_add_ne (by omega) (by omega)

/-- Settles O49: the first end marker in the payload closes a rejected frame. What is left is too short for a span of seven,
and where it holds no span at all it is only appended. -/
theorem payloadWithAnEndMarkerIsLost : Obligations.PayloadWithAnEndMarkerIsLost := by
  unfold Obligations.PayloadWithAnEndMarkerIsLost
  intro s p k hs hn hk
  refine ⟨?_, fun hleast hrest => ?_⟩
  · obtain ⟨m, hm, hleast⟩ := Nat.findX (p := fun m => EndAt p.bytes m) ⟨k, hk⟩
    refine ⟨_, exec_frame p s, ?_⟩
    rw [parseBytes_frame_cut hs hn hm hleast]
    exact parseBytes_tail s p m
  · have hroom : (afterReject k s).n + (p.bytes.drop (k + 2) ++ [end0, end1]).length ≤ 16 :=
      (Nat.zero_add _).trans_le ((length_tail_le p k).trans (by decide))
    rw [exec_frame, parseBytes_frame_cut hs hn hk hleast, parseBytes_of_noSpan (Nat.zero_le _) hrest,
      buffered_of_room hroom]
    rfl

/-! ### A payload too long for the buffer -/

/-- A stream of which the last bytes alone fill the buffer. -/
theorem latest_append_of_le (l : List Byte) {m : List Byte} (h : 16 ≤ m.length) : latest (l ++ m) = latest m := by
  rw [latest, List.length_append, latest, Nat.add_sub_assoc h, List.drop_append, Nat.add_sub_cancel_left]
  simp

theorem length_framedTail (q : List Byte) : (start1 :: (q ++ [end0, end1])).length = q.length + 3 := by simp

/-- From the second byte of its start marker on, a long frame fills the buffer. -/
theorem latest_append_framed_of_long (l : List Byte) {q : List Byte} (h : 13 ≤ q.length) :
    latest (l ++ framed q) = latest (start1 :: (q ++ [end0, end1])) := by
  have hsplit : l ++ framed q = (l ++ [start0]) ++ start1 :: (q ++ [end0, end1]) := List.append_cons ..
  rw [hsplit, latest_append_of_le _ (by rw [length_framedTail]; omega)]

theorem noStart_framedTail {q : List Byte} (h : NoStart q) : NoStart (start1 :: (q ++ [end0, end1])) := by
  intro i hi
  cases i with
  | zero => exact absurd (Option.some.inj hi.1) (by decide)
  | succ i => exact noPair_append_of_notMem h (by decide) i ((pairAt_succ ..).mp hi)

/-- The last byte of a long frame pushes out the start marker, and no other start marker is in the buffer. -/
theorem parseBytes_framed_of_long {s : State} {q : List Byte} (hs : NoStart s.iab) (hn : s.n ≤ 16) (hlen : 13 ≤ q.length)
    (hstart : NoStart q) (hend : NoEnd q) : parseBytes (framed q) s = buffered (framed q) s := by
  have hspan : NoSpan (appended end1 (buffered (unclosed q) s)) := by
    rw [appended_unclosed, latest_append_framed_of_long _ hlen]
    exact noSpan_of_noStart (noStart_drop (noStart_framedTail hstart) _)
  rw [parseBytes_framed hs hn hend, parseByte_of_noSpan hspan, appendByte_unclosed]

/-- Settles O50: the whole frame is only buffered, and the buffer is full from its second byte on. -/
theorem longSpanIsNeverAFrame : Obligations.LongSpanIsNeverAFrame := by
  unfold Obligations.LongSpanIsNeverAFrame
  intro s q hs hn hlen hstart hend
  have hrun := execSeq_cc (framed q) s
  rw [parseBytes_framed_of_long hs hn hlen hstart hend, buffered, latest_append_framed_of_long _ hlen, latest,
    length_framedTail, List.length_append, length_framed] at hrun
  exact hrun

end Sys2Proof.Machine
end

section
/-! PROOF. `POP` and `WR`: the whole next state of each, and where each has no step. -/

namespace Sys2Proof.Machine

theorem exec_pop_of_empty {s : State} (h : s.txq = []) : exec .pop s = .fault .popHasNoStep := by
  simp only [exec, execPop, h]

theorem makePending_eq (e : Event) (s : State) :
    makePending e s = { s with pending := if e ∈ s.pending then s.pending else s.pending ++ [e] } := by
  rw [← makePending_pending]
  unfold makePending
  split <;> rfl

/-- Settles O28: the head of the queue goes to the master. -/
theorem popResult : Obligations.PopResult := by
  unfold Obligations.PopResult
  exact fun s b rest h => exec_pop_of_txq h

/-- Settles O29: a drain with nothing remaining pushes nothing, so the queue is as empty as before it. -/
theorem popWithNothingQueuedHasNoStep : Obligations.PopWithNothingQueuedHasNoStep := by
  unfold Obligations.PopWithNothingQueuedHasNoStep
  intro s h
  refine ⟨exec_pop_of_empty h, fun hrem f => ⟨takeEvent .td s, ?_, h, exec_pop_of_empty h⟩⟩
  rw [exec_td, push_eq_self (s := takeEvent .td s) (.inl hrem)]

/-- Settles O30: the guard of `WR` decides, and a write makes its event pending unless it is pending already. -/
theorem writeResult : Obligations.WriteResult := by
  unfold Obligations.WriteResult
  refine fun b s => ⟨fun h => ?_, fun h => exec_wr_of_full h b⟩
  rw [exec_wr_of_room h, masterWrite, makePending_eq]

end Sys2Proof.Machine
end

section
/-! PROOF. The closed system: the room that the transmit queue reports bounds what is pushed into it. -/

namespace Sys2Proof.Machine

theorem length_push_txq_le (f : Nat) (s : State) : (push f s).txq.length ≤ s.txq.length + f := by
  rw [push_txq, List.length_append, List.length_take]
  omega

/-- A push of at most the room reported at the start of the operation stays within the depth (42_bus_queues.md R131). -/
theorem length_push_queue_le {s t : State} (h : s.txq.length ≤ s.cfg.txqDepth) (htxq : t.txq = s.txq := by simp) :
    (push (freeCapacity .queue s) t).txq.length ≤ s.cfg.txqDepth := by
  have hpush := length_push_txq_le (freeCapacity .queue s) t
  rw [htxq, freeCapacity, txFree, Nat.add_sub_of_le h] at hpush
  exact hpush

/-- Settles O32: only `RR` and `TD` lengthen the queue, each by no more than the room it reported. -/
theorem closedTransmitQueueIsBounded : Obligations.ClosedTransmitQueueIsBounded := by
  unfold Obligations.ClosedTransmitQueueIsBounded
  intro i s t hi hs h
  rw [exec_cfg h]
  cases execNext_of_exec h with
  | rr f | td f =>
    obtain rfl : f = .queue := of_decide_eq_true hi
    exact length_push_queue_le hs
  | pop b rest head =>
    rw [head] at hs
    exact Nat.le_of_succ_le hs
  | st =>
    rw [flushTxq_txq]
    split
    · exact Nat.zero_le _
    · exact hs
  | reset => exact Nat.zero_le _
  | cc | br | frame | get | wr => simpa using hs

end Sys2Proof.Machine
end

section
/-! PROOF. The closed system's round trip: seven `POP`s that have their steps take the whole record, and each has its step
when a drain follows every one that left bytes to push. -/

namespace Sys2Proof.Machine

/-! ### What the `POP`s of a sequence deliver -/

theorem exec_received_length {i : Instr} {s t : State} (h : exec i s = .next t) :
    t.received.length = s.received.length + if i = .pop then 1 else 0 := by
  cases execNext_of_exec h <;> simp

/-- What the master has received and the `POP`s still to run add up to the same before and after an operation. -/
theorem exec_received_length_add_count {i : Instr} {s t : State} (h : exec i s = .next t) (is : List Instr) :
    t.received.length + is.count .pop = s.received.length + (i :: is).count .pop := by
  rw [exec_received_length h, List.count_cons]
  simp only [beq_iff_eq]
  omega

/-- The master receives one byte for each `POP`. -/
theorem execSeq_received_length {is : List Instr} {s t : State} (h : execSeq is s = .next t) :
    t.received.length = s.received.length + is.count .pop := by
  induction is generalizing s with
  | nil => cases h; rfl
  | cons i is ih =>
    obtain ⟨u, hu, hrest⟩ := execSeq_cons h
    rw [ih hrest, exec_received_length_add_count hu]

/-- In a transfer the bytes taken and the bytes queued are together as many as were there before, and `cur` more. -/
theorem Transfer.length {p : Record} {before : List Byte} {s : State} (h : Transfer p before s) :
    s.received.length + s.txq.length = before.length + s.cur := by
  have hbytes := congrArg List.length h.bytes
  have := h.progress
  rw [List.length_append, List.length_append, List.length_take, length_bytes] at hbytes
  omega

/-- A transfer of which the master has taken seven bytes is complete. -/
theorem Transfer.complete {p : Record} {before : List Byte} {s : State} (h : Transfer p before s)
    (hseven : s.received.length = before.length + 7) :
    s.received = before ++ p.bytes ∧ s.txq = [] ∧ s.rem = 0 ∧ s.cur = 7 := by
  have hlength := h.length
  have hprogress := h.progress
  have hcur : s.cur = 7 := by omega
  have htxq : s.txq = [] := List.eq_nil_of_length_eq_zero (by omega)
  have hbytes := h.bytes
  rw [htxq, hcur, List.append_nil, List.take_of_length_le (length_bytes p).le] at hbytes
  exact ⟨hbytes, htxq, by omega, hcur⟩

/-! ### Why every `POP` has its step -/

/-- The operations of a read between its `RR` and its end (42_bus_queues.md R138). -/
def ReadOperation (i : Instr) : Prop := i = .pop ∨ i = .td .queue ∨ ∃ b, i = .cc b

theorem ReadOperation.keepsTransfer {i : Instr} (h : ReadOperation i) : i.keepsTransfer = true := by
  obtain rfl | rfl | ⟨b, rfl⟩ := h <;> rfl

/-- The next `POP` of `is` is not kept waiting for a push: nothing remains, a byte is queued, or a drain comes before it. -/
def NoWait (is : List Instr) (s : State) : Prop := s.rem = 0 ∨ s.txq ≠ [] ∨ drainBeforeNextPop is = true

/-- In `s` a read of `p` is under way in the closed system, with `is` still to run: seven `POP`s in all, and the next is not
kept waiting. -/
structure Reading (p : Record) (before : List Byte) (is : List Instr) (s : State) : Prop where
  transfer : Transfer p before s
  depth : 1 ≤ s.cfg.txqDepth
  pops : s.received.length + is.count .pop = before.length + 7
  noWait : NoWait is s

/-- A `POP` finds a byte: if none remains to be pushed, then what the earlier ones have not taken is queued. -/
theorem Reading.txq_ne_nil {p : Record} {before : List Byte} {is : List Instr} {s : State}
    (h : Reading p before (.pop :: is) s) : s.txq ≠ [] := by
  obtain hrem | htxq | hdrain := h.noWait
  · have hlength := h.transfer.length
    have hprogress := h.transfer.progress
    have hpops := h.pops
    rw [List.count_cons_self] at hpops
    exact List.ne_nil_of_length_pos (by omega)
  · exact htxq
  · cases hdrain

/-- After a push with room for a byte the next `POP` is not kept waiting, whatever follows. -/
theorem noWait_push {f : Nat} {s : State} (hseven : s.cur + s.rem = 7) (hf : s.txq = [] → 1 ≤ f) (is : List Instr) :
    NoWait is (push f s) := by
  by_cases hrem : s.rem = 0
  · exact .inl (by rw [push_rem, hrem, Nat.zero_sub])
  · refine .inr (.inl (List.ne_nil_of_length_pos ?_))
    rw [length_push_txq hseven.le]
    by_cases htxq : s.txq = []
    · have := hf htxq
      omega
    · have := List.length_pos_iff.mpr htxq
      omega

theorem one_le_freeCapacity_queue {s : State} (hdepth : 1 ≤ s.cfg.txqDepth) (htxq : s.txq = []) :
    1 ≤ freeCapacity .queue s := by
  rw [freeCapacity, txFree, htxq]
  exact hdepth

/-- What `drainsFollow` says of the first operation and of the rest. -/
theorem drainsFollow_cons {i : Instr} {is : List Instr} {s t : State} (h : drainsFollow (i :: is) s = true)
    (ht : exec i s = .next t) : (i = .pop → 0 < s.rem → drainBeforeNextPop is = true) ∧ drainsFollow is t = true := by
  rw [drainsFollow, ht, Bool.and_eq_true, decide_eq_true_eq] at h
  exact h

/-- Each operation of a read keeps the next `POP` from waiting. -/
theorem Reading.noWait_exec {p : Record} {before : List Byte} {i : Instr} {is : List Instr} {s t : State}
    (h : Reading p before (i :: is) s) (hi : ReadOperation i)
    (hdrain : i = .pop → 0 < s.rem → drainBeforeNextPop is = true) (ht : exec i s = .next t) : NoWait is t := by
  obtain rfl | rfl | ⟨b, rfl⟩ := hi
  · cases execNext_of_exec ht
    exact (Nat.eq_zero_or_pos s.rem).imp id fun hrem => .inr (hdrain rfl hrem)
  · cases execNext_of_exec ht
    exact noWait_push (s := takeEvent .td s) h.transfer.progress (one_le_freeCapacity_queue h.depth) is
  · cases execNext_of_exec ht
    have hnoWait : s.rem = 0 ∨ s.txq ≠ [] ∨ drainBeforeNextPop is = true := h.noWait
    rwa [NoWait, parseByte_rem, parseByte_txq]

theorem Reading.exec {p : Record} {before : List Byte} {i : Instr} {is : List Instr} {s t : State}
    (h : Reading p before (i :: is) s) (hi : ReadOperation i)
    (hdrain : i = .pop → 0 < s.rem → drainBeforeNextPop is = true) (ht : exec i s = .next t) :
    Reading p before is t where
  transfer := h.transfer.exec hi.keepsTransfer ht
  depth := by rw [exec_cfg ht]; exact h.depth
  pops := (exec_received_length_add_count ht is).trans h.pops
  noWait := h.noWait_exec hi hdrain ht

/-- The next operation of a read has its step. -/
theorem Reading.exec_next {p : Record} {before : List Byte} {i : Instr} {is : List Instr} {s : State}
    (h : Reading p before (i :: is) s) (hi : ReadOperation i) : ∃ t, Machine.exec i s = .next t := by
  obtain rfl | rfl | ⟨b, rfl⟩ := hi
  · obtain ⟨b, rest, hhead⟩ := List.exists_cons_of_ne_nil h.txq_ne_nil
    exact ⟨_, exec_pop_of_txq hhead⟩
  · exact ⟨_, exec_td .queue s⟩
  · exact ⟨_, exec_cc b s⟩

theorem Reading.execSeq_next {p : Record} {before : List Byte} {is : List Instr} {s : State}
    (h : Reading p before is s) (his : ∀ i ∈ is, ReadOperation i) (hdrains : drainsFollow is s = true) :
    ∃ t, execSeq is s = .next t := by
  induction is generalizing s with
  | nil => exact ⟨s, rfl⟩
  | cons i is ih =>
    obtain ⟨hi, his⟩ := List.forall_mem_cons.mp his
    obtain ⟨u, hu⟩ := h.exec_next hi
    obtain ⟨hdrain, hdrains⟩ := drainsFollow_cons hdrains hu
    rw [execSeq_cons_next hu]
    exact ih (h.exec hi hdrain hu) his hdrains

/-- The `RR` finds an empty queue, so it pushes a byte at once and the read is under way. -/
theorem reading_exec_rr {is : List Instr} {s t : State} (hwhole : s.commitOld = none ∨ s.cfg.snapWriteAtomic = true)
    (htxq : s.txq = []) (hdepth : 1 ≤ s.cfg.txqDepth) (hcount : is.count .pop = 7)
    (h : exec (.rr .queue) s = .next t) : Reading s.snap s.received is t where
  transfer := by
    have htransfer := transfer_exec_rr hwhole h
    rwa [htxq, List.append_nil] at htransfer
  depth := by rw [exec_cfg h]; exact hdepth
  pops := by rw [exec_received_length h, hcount]; rfl
  noWait := by
    cases execNext_of_exec h
    exact noWait_push rfl (fun _ => one_le_freeCapacity_queue hdepth htxq) is

/-- Settles O21: the master has taken seven bytes of the transfer, so it is complete; and after the `RR` the read is under
way, so that each operation has its step. -/
theorem closedReadDeliversTheSnapshot : Obligations.ClosedReadDeliversTheSnapshot := by
  unfold Obligations.ClosedReadDeliversTheSnapshot
  intro s is hwhole htxq hdepth his hcount
  have hrr := exec_rr_whole hwhole .queue
  have hreading := reading_exec_rr hwhole htxq hdepth hcount hrr
  rw [execSeq_cons_next hrr]
  refine ⟨fun t ht => ?_, fun hdrains => ?_⟩
  · refine (hreading.transfer.execSeq (fun i hi => ReadOperation.keepsTransfer (his i hi)) ht).complete ?_
    rw [execSeq_received_length ht, hreading.pops]
  · exact hreading.execSeq_next his (drainsFollow_cons hdrains hrr).2

end Sys2Proof.Machine
end

section
/-! PROOF. The events: with the environment's stream ended a step delivers one, and no operation of the block traps or is
refused (60_exceptions.md R141, R145, R146). -/

namespace Sys2Proof.Machine

/-! ### Delivery -/

theorem fetch_pending {s : State} {e : Event} {es : List Event} (hin : s.inputs = []) (hp : s.pending = e :: es) :
    fetch s = .run (pendingWord e) { s with commitOld := none } := by
  simp only [fetch, hin, hp]

/-- The operation of an event always runs, and takes the event from those pending. -/
theorem exec_event_delivers (e : Event) (f : FreeOperand) (s : State) :
    ∃ t, exec (e.instr f) s = .next t ∧ t.pending = s.pending.erase e := by
  cases e with
  | rr => exact ⟨_, exec_rr f s, by simp⟩
  | td => exact ⟨_, exec_td f s, by simp⟩
  | br => exact ⟨_, exec_br s, by simp⟩
  | st => exact ⟨_, exec_st s, by simp⟩

/-- Settles O6: the word of the oldest event is fetched and decodes to its operation, which takes it from the front. -/
theorem stepDeliversTheOldestPendingEvent : Obligations.StepDeliversTheOldestPendingEvent := by
  unfold Obligations.StepDeliversTheOldestPendingEvent
  intro s e es hin hp
  have hstep : step s = exec (e.instr .queue) { s with commitOld := none } :=
    step_of_decoded (fetch_pending hin hp) (decode_eventWord e rfl)
  obtain ⟨t, ht, hpending⟩ := exec_event_delivers e .queue { s with commitOld := none }
  refine ⟨hstep, t, hstep.trans ht, ?_⟩
  rw [hpending, hp, List.erase_cons_head]

/-! ### Which operations can be without a step -/

/-- `i` is `WR`, or `GET` whose first half is a `WR`. -/
def WritesRxq (i : Instr) : Prop := (∃ b, i = .wr b) ∨ i = .get

theorem exec_of_writesRxq_of_full {i : Instr} {s : State} (hi : WritesRxq i) (hfull : s.cfg.rxqDepth ≤ s.rxq.length) :
    exec i s = .fault .wrHasNoStep := by
  obtain ⟨b, rfl⟩ | rfl := hi
  · exact exec_wr_of_full (Nat.not_lt.mpr hfull) b
  · exact (getCommandIsCounted s).2 (Nat.not_lt.mpr hfull)

/-- Outside the two waits of the environment every operation runs: the block's own from every state. -/
theorem exec_next_of_no_wait {i : Instr} {s : State} (hpop : ¬ (i = .pop ∧ s.txq = []))
    (hwr : ¬ (WritesRxq i ∧ s.cfg.rxqDepth ≤ s.rxq.length)) : ∃ t, exec i s = .next t := by
  cases i with
  | pop =>
    obtain ⟨b, rest, hhead⟩ := List.exists_cons_of_ne_nil fun htxq => hpop ⟨rfl, htxq⟩
    exact ⟨_, exec_pop_of_txq hhead⟩
  | wr b =>
    have hroom : s.rxq.length < s.cfg.rxqDepth := Nat.lt_of_not_le fun hfull => hwr ⟨.inl ⟨b, rfl⟩, hfull⟩
    exact ⟨_, exec_wr_of_room hroom b⟩
  | get =>
    have hroom : s.rxq.length < s.cfg.rxqDepth := Nat.lt_of_not_le fun hfull => hwr ⟨.inr rfl, hfull⟩
    exact ⟨_, (getCommandIsCounted s).1 hroom⟩
  | cc b => exact ⟨_, exec_cc b s⟩
  | rr f => exact ⟨_, exec_rr f s⟩
  | td f => exact ⟨_, exec_td f s⟩
  | br => exact ⟨_, exec_br s⟩
  | st => exact ⟨_, exec_st s⟩
  | frame p => exact ⟨_, exec_frame p s⟩
  | reset => exact ⟨_, exec_reset s⟩

/-! ### Nothing is refused -/

theorem exec_ne_refused (i : Instr) (s : State) (r : Refusal) : exec i s ≠ .refused r := by
  by_cases hpop : i = .pop ∧ s.txq = []
  · obtain ⟨rfl, htxq⟩ := hpop
    simp [exec_pop_of_empty htxq]
  · by_cases hwr : WritesRxq i ∧ s.cfg.rxqDepth ≤ s.rxq.length
    · simp [exec_of_writesRxq_of_full hwr.1 hwr.2]
    · obtain ⟨t, ht⟩ := exec_next_of_no_wait hpop hwr
      simp [ht]

theorem execSeq_ne_refused (is : List Instr) (s : State) (r : Refusal) : execSeq is s ≠ .refused r := by
  induction is generalizing s with
  | nil => simp [execSeq_nil]
  | cons i is ih =>
    rw [execSeq]
    split
    · exact ih _
    · simp
    · rename_i r' hr'
      exact absurd hr' (exec_ne_refused i s r')

/-- Whatever a step runs is made of operations, be it a row of the opcode table or not. -/
theorem step_ne_refused (s : State) (r : Refusal) : step s ≠ .refused r := by
  cases hf : fetch s with
  | quiet t => simp [step_of_quiet hf]
  | run w t =>
    cases hd : decode w with
    | ok i =>
      rw [step_of_decoded hf hd]
      exact exec_ne_refused i t r
    | error e =>
      rw [step_of_undecoded hf hd]
      exact execSeq_ne_refused (operationsOf w) t r

/-- Settles O58: each operation runs unless its queue makes it wait, and a step is made of operations. -/
theorem onlyTheEnvironmentCanHaveNoStep : Obligations.OnlyTheEnvironmentCanHaveNoStep := by
  unfold Obligations.OnlyTheEnvironmentCanHaveNoStep
  refine ⟨fun i s => ⟨exec_next_of_no_wait, ?_, exec_of_writesRxq_of_full⟩, step_ne_refused⟩
  rintro rfl htxq
  exact exec_pop_of_empty htxq

end Sys2Proof.Machine
end

section
/-! PROOF. A stale start marker: the bytes that wait behind it and the next frame are one longer frame, and its payload is
rejected (70_reset_and_hazards.md R164). -/

namespace Sys2Proof.Machine

/-- Where the second list does not begin with the pair's second byte, no pair stands across the join. -/
theorem noPair_append {a b : Byte} {l m : List Byte} (hl : ∀ i, ¬ PairAt a b l i) (hm : ∀ i, ¬ PairAt a b m i)
    (hb : m[0]? ≠ some b) (i : Nat) : ¬ PairAt a b (l ++ m) i := by
  intro hp
  obtain hbefore | hjoin | hbehind : i + 1 < l.length ∨ i + 1 = l.length ∨ l.length ≤ i := by omega
  · exact hl i (hp.of_append hbefore)
  · obtain ⟨-, hsecond⟩ := hp
    rw [hjoin, List.getElem?_append_right (le_refl _), Nat.sub_self] at hsecond
    exact hb hsecond
  · refine hm (i - l.length) ?_
    rwa [← List.drop_left (l₁ := l) (l₂ := m), pairAt_drop, Nat.add_sub_of_le hbehind]

/-- Neither byte of a start marker begins an end marker. -/
theorem noEnd_start_append {m : List Byte} (h : NoEnd m) : NoEnd (start0 :: start1 :: m) := by
  rw [noEnd_iff] at h ⊢
  rw [findPair_cons_of_ne (by decide), findPair_cons_of_ne (by decide), h]
  rfl

/-- The payload between a stale start marker and the end marker of the next frame. -/
def capturedPayload (q : List Byte) (p : Record) : List Byte := q ++ start0 :: start1 :: p.bytes

theorem length_capturedPayload (q : List Byte) (p : Record) : (capturedPayload q p).length = q.length + 9 := by
  rw [capturedPayload, List.length_append, List.length_cons, List.length_cons, length_bytes]

theorem noEnd_capturedPayload {q : List Byte} {p : Record} (hq : NoEnd q) (hp : NoEnd p.bytes) :
    NoEnd (capturedPayload q p) :=
  noPair_append hq (noEnd_start_append hp) (show some start0 ≠ some end1 by decide)

/-- A buffer that begins with a start marker and holds no end marker is what an empty buffer becomes by its bytes. -/
theorem parseBytes_start_of_empty {s : State} {q : List Byte} (hs : s.iab = start0 :: start1 :: q)
    (hlen : q.length ≤ 14) (hq : NoEnd q) : parseBytes (start0 :: start1 :: q) { s with iab := [] } = s := by
  have hroom : ({ s with iab := [] } : State).n + (start0 :: start1 :: q).length ≤ 16 := by
    simp only [State.n, List.length_cons, List.length_nil]
    omega
  have hspan : NoSpan ([] ++ start0 :: start1 :: q) := noSpan_append_start (not_pairAt_nil start0 start1) hq
  rw [parseBytes_of_noSpan (Nat.zero_le _) hspan, buffered_of_room hroom, List.nil_append, ← hs]

/-- A frame behind a stale start marker is the one longer frame, fed to an empty buffer. -/
theorem parseBytes_frame_of_stale {s : State} {q : List Byte} (hs : s.iab = start0 :: start1 :: q) (hlen : q.length ≤ 14)
    (hq : NoEnd q) (p : Record) :
    parseBytes (frameBytes p) s = parseBytes (framed (capturedPayload q p)) { s with iab := [] } := by
  have hframed : framed (capturedPayload q p) = (start0 :: start1 :: q) ++ frameBytes p := by
    simp [framed, capturedPayload, frameBytes]
  rw [hframed, parseBytes_append, parseBytes_start_of_empty hs hlen hq]

/-- Settles O51: the longer frame has nine to twelve payload bytes, so it is rejected, and all its bytes fit the buffer. -/
theorem staleStartMarkerCapturesTheFrame : Obligations.StaleStartMarkerCapturesTheFrame := by
  unfold Obligations.StaleStartMarkerCapturesTheFrame
  intro s q p hs hlen hq hp
  have hpay := length_capturedPayload q p
  have hnone : NoStart ({ s with iab := [] } : State).iab := not_pairAt_nil start0 start1
  have hlost : 0 + (q.length + 9 + 4) - 16 = 0 := by omega
  rw [exec_frame, parseBytes_frame_of_stale (q := q) hs (by omega) hq,
    parseBytes_framed_of_ne_seven hnone (Nat.zero_le _) (by omega) (by omega) (noEnd_capturedPayload hq hp),
    afterReject, hpay, State.n, List.length_nil, hlost, BitVec.add_zero]

end Sys2Proof.Machine
end

section
/-! PROOF. `RESET`: every value it leaves, and that none of them depends on the state before. -/

namespace Sys2Proof.Machine

/-- Settles O54: `RESET` answers the reset state, in which each value stands. -/
theorem resetResult : Obligations.ResetResult := by
  unfold Obligations.ResetResult
  exact fun s => ⟨resetState s, exec_reset s, rfl, rfl, rfl, rfl, rfl, rfl, rfl, rfl, rfl, rfl, rfl, rfl⟩

/-- Settles O55: of the state before, only the parameter `SNAP_RESET` comes into these values, and it is the same. -/
theorem nothingButUnspecifiedPobMaySurviveAReset : Obligations.NothingButUnspecifiedPobMaySurviveAReset := by
  unfold Obligations.NothingButUnspecifiedPobMaySurviveAReset
  intro s t s' t' hcfg hs ht
  cases execNext_of_exec hs
  cases execNext_of_exec ht
  exact ⟨congrArg Params.snapReset hcfg, rfl, rfl, rfl, rfl, rfl, rfl, rfl, rfl, rfl, rfl⟩

end Sys2Proof.Machine
end

section
/-! PROOF. The idle step: no operation of the environment's stream is left and no event waits (95_test_vectors.md L1-8). -/

namespace Sys2Proof.Machine

theorem fetch_idle {s : State} (hin : s.inputs = []) (hp : s.pending = []) : fetch s = .quiet s := by
  simp only [fetch, hin, hp]

/-- Settles O7: nothing is fetched, and a step that fetches nothing hands the state on as the fetch leaves it. -/
theorem stepIdlesWithNothingToDo : Obligations.StepIdlesWithNothingToDo := by
  unfold Obligations.StepIdlesWithNothingToDo
  exact fun _ hin hp => step_of_quiet (fetch_idle hin hp)

end Sys2Proof.Machine
end
